-- ==== Sys2Proof/Word.lean ====
section
/-! DEFINITION. The word types of the block: bytes, operand fields and the 40-bit command word (R9 of `00_scope.md`,
R51 of `30_encoding.md`). -/

namespace Sys2Proof

/-- A byte: `u8` of R9. Bit 0 is the least significant bit. -/
abbrev Byte := BitVec 8

/-- An operand field of the command word, 16 bits (R51). -/
abbrev Field := BitVec 16

/-- A command word, `op[39:32] a[31:16] b[15:0]` (R51). -/
abbrev CommandWord := BitVec 40

end Sys2Proof
end

