-- ==== Sys2Proof/Config.lean ====
section
/-! DEFINITION. The parameters of an instance of the block (R7, R8 of `00_scope.md`; R35 of `10_state.md`), the values
of the reference system, and the constants the spec leaves without a value. -/

namespace Sys2Proof

/-- What `SETBRIGHT` does with a value outside 1 to `SLOTCOUNT` (U2, `BRIGHT_OOR_POLICY`). -/
inductive BrightPolicy where
  | clamp
  | ignore
  deriving DecidableEq, Repr

/-- The parameters of R7, one field each, with the two switches the spec offers a model that covers both readings
(U2, C1). No operation changes any of them (R8). -/
structure Config where
  /-- `UNITCOUNT`, the number of display units. -/
  unitCount : Nat
  /-- `SLOTCOUNT`, slots per unit dwell. -/
  slotCount : Nat
  /-- `TICK_HZ`; no rule reads it (R7, R35, R145). -/
  tickHz : Nat
  /-- `BRIGHT_RESET`, brightness after reset (D6, C2; log 5). -/
  brightReset : Nat
  /-- `FCNT_RESET`, `FCNT` after reset. -/
  fcntReset : Nat
  /-- `FHI_RESET`, `FHI` after reset. -/
  fhiReset : Nat
  /-- `FONTCOUNT`, the number of fonts. -/
  fontCount : Nat
  /-- `FONT_ROM(f, k)`, the contents of the font table, read at ids below `FONTCOUNT` only. The type of an entry says that
  its bit 7 is 0 (R108; log 10). -/
  fontRom : Nat → BitVec 7 → BitVec 7
  /-- `UNIQUE7S_ID`: which font id is the font the source calls `UNIQUE7S` (R109, D21, U13); no operation reads it. -/
  unique7sId : Nat
  /-- `OPW`, the width of a command operand (D8; log 17). -/
  opw : Nat
  /-- `OUT_POR` for `OUTA[5:0]` (D14, U6; log 6). -/
  outAPor : BitVec 6
  /-- `OUT_POR` for `OUTB[7:6]`. -/
  outRowsPor : BitVec 2
  /-- `OUT_POR` for the select field of `OUTB`. -/
  outSelectPor : BitVec 4
  /-- `BRIGHT_OOR_POLICY` (D7, U2; log 12). -/
  brightPolicy : BrightPolicy
  /-- `MASK_OPERAND_INVERTED` (C1, D20, U12; log 13). -/
  maskOperandInverted : Bool

namespace Config

/-- The configurations the spec admits: the column *constraint* of R7 (D2, U15; log 4). -/
structure Legal (c : Config) : Prop where
  unitCount_range : 1 ≤ c.unitCount ∧ c.unitCount ≤ 4
  slotCount_range : 2 ≤ c.slotCount ∧ c.slotCount ≤ 255
  /-- "any positive". -/
  tickHz_pos : 0 < c.tickHz
  brightReset_range : 1 ≤ c.brightReset ∧ c.brightReset ≤ c.slotCount
  brightReset_five : c.slotCount = 5 → c.brightReset = 4
  fcntReset_fixed : c.fcntReset = 50
  fhiReset_fixed : c.fhiReset = 25
  fontCount_fixed : c.fontCount = 2
  /-- "0 or 1". -/
  unique7sId_lt : c.unique7sId < c.fontCount
  /-- "any width of at least 9 bits". -/
  opw_range : 9 ≤ c.opw
  /-- `OUT_POR` is a value of the owned bits (R30). -/
  outSelectPor_lt : c.outSelectPor.toNat < 2 ^ c.unitCount

/-- The font table of the reference system. The spec gives no entry (R110, D22, U11), so nothing is known of it (log 10). -/
opaque referenceFontRom : Nat → BitVec 7 → BitVec 7

/-- The number of `UNIQUE7S` in the reference system, which the spec leaves open (D21, U13; log 10). -/
opaque referenceUnique7sId : Fin 2

/-- The reference system (R2, the column *reference* of R7), with the resolutions of C1 and D7. -/
def reference : Config where
  unitCount := 4
  slotCount := 5
  tickHz := 1000
  brightReset := 4
  fcntReset := 50
  fhiReset := 25
  fontCount := 2
  fontRom := referenceFontRom
  unique7sId := referenceUnique7sId
  opw := 16
  outAPor := 0
  outRowsPor := 0
  outSelectPor := 0
  brightPolicy := .clamp
  maskOperandInverted := false

end Config

end Sys2Proof
end

