-- ==== Sys2Proof/Syntax.lean ====
section
/-! DEFINITION. The fourteen operations of the block, one constructor per row of `spec/opcode_table.json`
(R56 of `30_encoding.md`). Operands are mathematical integers (R52). -/

namespace Sys2Proof

/-- The operations of R56: the timer event and the thirteen commands. -/
inductive Instr where
  /-- `TICK`, the timer strobe (R57, R67). -/
  | tick
  /-- `RESET` (R86). -/
  | reset
  /-- `SETBRIGHT A` (R87). -/
  | setbright (a : Int)
  /-- `GETBRIGHT` (R88). -/
  | getbright
  /-- `SETBLINK A` (R89). -/
  | setblink (a : Int)
  /-- `GETBLINK` (R90). -/
  | getblink
  /-- `SETHILO A, B` (R91). -/
  | sethilo (a b : Int)
  /-- `GETHI` (R92). -/
  | gethi
  /-- `GETLO` (R93). -/
  | getlo
  /-- `SETMASK A` (R94). -/
  | setmask (a : Int)
  /-- `GETMASK` (R95). -/
  | getmask
  /-- `FBWR A, B` (R101). -/
  | fbwr (a b : Int)
  /-- `FBRD A` (R102). -/
  | fbrd (a : Int)
  /-- `FONTGET A, B` (R106). -/
  | fontget (a b : Int)
  deriving DecidableEq, Repr

namespace Instr

/-- The mnemonic of R56. -/
def mnemonic : Instr → String
  | .tick => "TICK"
  | .reset => "RESET"
  | .setbright _ => "SETBRIGHT"
  | .getbright => "GETBRIGHT"
  | .setblink _ => "SETBLINK"
  | .getblink => "GETBLINK"
  | .sethilo _ _ => "SETHILO"
  | .gethi => "GETHI"
  | .getlo => "GETLO"
  | .setmask _ => "SETMASK"
  | .getmask => "GETMASK"
  | .fbwr _ _ => "FBWR"
  | .fbrd _ => "FBRD"
  | .fontget _ _ => "FONTGET"

/-- The operand `A`, where the operation uses field `a` (the column *operands used* of R56). -/
def operandA : Instr → Option Int
  | .tick => none
  | .reset => none
  | .setbright a => some a
  | .getbright => none
  | .setblink a => some a
  | .getblink => none
  | .sethilo a _ => some a
  | .gethi => none
  | .getlo => none
  | .setmask a => some a
  | .getmask => none
  | .fbwr a _ => some a
  | .fbrd a => some a
  | .fontget a _ => some a

/-- The operand `B`, where the operation uses field `b`. -/
def operandB : Instr → Option Int
  | .tick => none
  | .reset => none
  | .setbright _ => none
  | .getbright => none
  | .setblink _ => none
  | .getblink => none
  | .sethilo _ b => some b
  | .gethi => none
  | .getlo => none
  | .setmask _ => none
  | .getmask => none
  | .fbwr _ b => some b
  | .fbrd _ => none
  | .fontget _ b => some b

/-- The assembler line of an operation, operands in decimal (R60). -/
def asm (i : Instr) : String :=
  match i.operandA, i.operandB with
  | some a, some b => i.mnemonic ++ " " ++ toString a ++ ", " ++ toString b
  | some a, none => i.mnemonic ++ " " ++ toString a
  | none, some b => i.mnemonic ++ " " ++ toString b
  | none, none => i.mnemonic

end Instr

end Sys2Proof
end

