-- ==== Sys2Proof/WellFormed.lean ====
section
/-! DEFINITION. Which operations a command word can carry: every operand an integer of `OPW` bits, signed
(R9 of `00_scope.md`, R51 and R52 of `30_encoding.md`). -/

namespace Sys2Proof

/-- An operand of `OPW` bits, two's complement (R7, R9). -/
abbrev Config.fitsOperand (c : Config) (v : Int) : Prop := -2 ^ (c.opw - 1) ≤ v ∧ v < 2 ^ (c.opw - 1)

/-- An operand the field of the command word can hold: `OPW` of the reference system, the one width the word of R51
has (R52). -/
abbrev fitsField (v : Int) : Prop := Config.reference.fitsOperand v

/-- Both operands, where the operation has them, fit their fields. -/
abbrev Instr.WellFormed (i : Instr) : Prop :=
  (∀ a ∈ i.operandA, fitsField a) ∧ (∀ b ∈ i.operandB, fitsField b)

end Sys2Proof
end

