-- ==== Sys2Proof/Decode.lean ====
section
/-! DEFINITION. Decoding and encoding of the 40-bit word (R51 to R59, R63 of `30_encoding.md`).
`decodeCommand` reads the command port, where `op = 0x00` is reserved; `decodeTrace` reads the words in which runs are
written down, where `0x00` is the code of `TICK` (R57). -/

namespace Sys2Proof

/-- Field `op`, bits 39:32 (R51). -/
def opField (w : CommandWord) : Byte := w.extractLsb' 32 8

/-- Field `a`, bits 31:16 (R51). -/
def aField (w : CommandWord) : Field := w.extractLsb' 16 16

/-- Field `b`, bits 15:0 (R51). -/
def bField (w : CommandWord) : Field := w.extractLsb' 0 16

/-- `A = sext_16(cmd[31:16])` (R52). -/
def operandOfA (w : CommandWord) : Int := (aField w).toInt

/-- `B = sext_16(cmd[15:0])` (R52). -/
def operandOfB (w : CommandWord) : Int := (bField w).toInt

/-- Why a word names no operation. -/
inductive Rejection where
  /-- The operation code is reserved on the command port (R58). -/
  | reservedOp (op : Byte)
  deriving DecidableEq, Repr

/-- The outcome of decoding a word. -/
inductive Decoded where
  | instr (i : Instr)
  | rejected (why : Rejection)
  deriving DecidableEq, Repr

/-- The command port's decoder: `op` alone chooses the operation (R51, R56, R58, R63), fields an operation does not use
are ignored (R55). -/
def decodeCommand (w : CommandWord) : Decoded :=
  match (opField w).toNat with
  | 0x01 => .instr .reset
  | 0x02 => .instr (.setbright (operandOfA w))
  | 0x03 => .instr .getbright
  | 0x04 => .instr (.setblink (operandOfA w))
  | 0x05 => .instr .getblink
  | 0x06 => .instr (.sethilo (operandOfA w) (operandOfB w))
  | 0x07 => .instr .gethi
  | 0x08 => .instr .getlo
  | 0x09 => .instr (.setmask (operandOfA w))
  | 0x0A => .instr .getmask
  | 0x0B => .instr (.fbwr (operandOfA w) (operandOfB w))
  | 0x0C => .instr (.fbrd (operandOfA w))
  | 0x0D => .instr (.fontget (operandOfA w) (operandOfB w))
  | _ => .rejected (.reservedOp (opField w))

/-- The decoder of the words in which a run is written: `op = 0x00` is the event code of `TICK` (R57, R65), every other
word is a command. -/
def decodeTrace (w : CommandWord) : Decoded :=
  if opField w = 0 then .instr .tick else decodeCommand w

/-- The operation code of R56; `TICK` has the trace code `0x00` of R57. -/
def Instr.op : Instr → Byte
  | .tick => 0x00
  | .reset => 0x01
  | .setbright _ => 0x02
  | .getbright => 0x03
  | .setblink _ => 0x04
  | .getblink => 0x05
  | .sethilo _ _ => 0x06
  | .gethi => 0x07
  | .getlo => 0x08
  | .setmask _ => 0x09
  | .getmask => 0x0A
  | .fbwr _ _ => 0x0B
  | .fbrd _ => 0x0C
  | .fontget _ _ => 0x0D

/-- A word of the one format `C` (R51): `op` in the high byte, then `a`, then `b`. -/
def wordOf (op : Byte) (a b : Field) : CommandWord := op ++ a ++ b

/-- The field of an operand, 0 where the operation has none (R55: "An assembler emits 0 there"). -/
def fieldOf (v : Option Int) : Field := BitVec.ofInt 16 (v.getD 0)

/-- The word of an operation (R51, R55, R56, R66). -/
def encode (i : Instr) : CommandWord := wordOf i.op (fieldOf i.operandA) (fieldOf i.operandB)

/-- The word an opcode-table row of `nbits` bits stands for; every bit above `nbits` is 0. -/
def wordOfTable (nbits w : Nat) : CommandWord := BitVec.ofNat 40 (w % 2 ^ nbits)

/-- The operation the decoder reads from a word of the opcode table, which numbers a 40-bit word from its least
significant bit (R65) and writes `TICK` with its trace code. A longer word is no word of the block (R51). -/
def decodeTableWord (nbits w : Nat) : Option Instr :=
  if w % 2 ^ nbits < 2 ^ 40 then
    match decodeTrace (wordOfTable nbits w) with
    | .instr i => some i
    | .rejected _ => none
  else none

end Sys2Proof
end

