-- ==== Sys2Proof/Machine/State.lean ====
section
/-! DEFINITION. The state of the block (R13, R33 of `10_state.md`) as plain data, the model's own fields for the
environment's inputs and for what an observer sees, and the state after power-on (R131 of `70_reset_and_hazards.md`). -/

namespace Sys2Proof.Machine

/-- The block has no fault (R113, R149: "there is no stuck state, no wait, no hold and no fault"). No constructor, so no
step can end in one. -/
inductive Fault where
  deriving DecidableEq, Repr

/-- Why a step has no meaning. -/
inductive Refusal where
  /-- An operation of the table that has no meaning yet; raised by `exec` alone, naming it. Safe. No arm raises it. -/
  | notModelled (mnemonic : String)
  deriving DecidableEq, Repr

/-- One port write (R10): `PortWrite(A, rows)` sets `OUTA[5:0]`; `PortWrite(B, rows, select)` sets `OUTB[7:6]` and the
select field in one write. -/
inductive PortWrite where
  | portA (rows : BitVec 6)
  | portB (rows : BitVec 2) (select : BitVec 4)
  deriving DecidableEq, Repr

/-- One event the environment presents (R11, R50). -/
inductive Input where
  /-- The timer strobe: one `TICK` event. -/
  | strobe
  /-- A valid word on the command port. -/
  | command (word : CommandWord)
  /-- Power-on reset, `por`. -/
  | powerOn
  deriving DecidableEq, Repr

/-- The frame buffer: (address, byte) pairs, addresses strictly rising, no byte equal to `Memory.unlisted` (log 22). -/
abbrev Memory := List Host.Cell

/-- What an unlisted frame-buffer address reads as: the spec's reset value of every byte (R23, R33). -/
def Memory.unlisted : Byte := 0x00

/-- The state of the block, and the model's own three fields at the end. -/
structure State where
  /-- `SLOT` (R15). -/
  slot : Byte
  /-- `UNIT` (R16). -/
  unit : Byte
  /-- `FRAME` (R17). -/
  frame : Byte
  /-- `BRIGHT` (R18). -/
  bright : Byte
  /-- `BAO` (R19). -/
  bao : Bool
  /-- `FCNT` (R20). -/
  fcnt : Byte
  /-- `FHI` (R21). -/
  fhi : Byte
  /-- `NBM`, in an 8-bit register whose bits from `UNITCOUNT` up are always 0 (R22). -/
  nbm : Byte
  /-- `FB` (R23). -/
  fb : Memory
  /-- `OUTA[5:0]` (R27). -/
  outA : BitVec 6
  /-- `OUTB[7:6]` (R28). -/
  outRows : BitVec 2
  /-- `OUTB[5:2]`, of which the select field is the low `UNITCOUNT` bits and the others stay 0 (R29, R30). -/
  outSelect : BitVec 4
  /-- The model's own: the output trace since power-on, oldest first (R10; log 3). -/
  trace : List PortWrite
  /-- The model's own: the responses since power-on, oldest first (R53, R148; log 3). -/
  responses : List Byte
  /-- The model's own: the events still to be presented, next first (R11, R35; log 1). -/
  inputs : List Input
  deriving DecidableEq, Repr

/-- The state after power-on (R131, the last column of R33), with nothing presented yet. -/
def State.afterPowerOn (c : Config) : State where
  slot := BitVec.ofNat 8 (c.slotCount - 1)
  unit := BitVec.ofNat 8 (c.unitCount - 1)
  frame := BitVec.ofNat 8 (c.fcntReset - 1)
  bright := BitVec.ofNat 8 c.brightReset
  bao := true
  fcnt := BitVec.ofNat 8 c.fcntReset
  fhi := BitVec.ofNat 8 c.fhiReset
  nbm := 0
  fb := []
  outA := c.outAPor
  outRows := c.outRowsPor
  outSelect := c.outSelectPor
  trace := []
  responses := []
  inputs := []

/-- The machine right after reset: the reference system after power-on (R131). -/
def State.reset : State := State.afterPowerOn Config.reference

end Sys2Proof.Machine
end

