-- ==== Sys2Proof/Machine/Operands.lean ====
section
/-! DEFINITION. How each operation narrows its integer operands, "and in no other way" (R52, R54 of `30_encoding.md`). -/

namespace Sys2Proof.Machine

/-- `clamp(v, lo, hi)` of R10. -/
def clamp (v lo hi : Int) : Int := if v < lo then lo else if hi < v then hi else v

/-- The duty value `SETBRIGHT` stores: clamped to 1 to `SLOTCOUNT` (R87); under the other policy of U2 an out-of-range
value leaves the old one. -/
def dutyOperand (c : Config) (old : Byte) (a : Int) : Byte :=
  match c.brightPolicy with
  | .clamp => BitVec.ofInt 8 (clamp a 1 c.slotCount)
  | .ignore => if 1 ≤ a ∧ a ≤ c.slotCount then BitVec.ofInt 8 a else old

/-- A Boolean operand: true when it is not 0 (R54). -/
def boolOperand (a : Int) : Bool := a != 0

/-- A Boolean result: `0x01` or `0x00` (R54). -/
def boolResponse (v : Bool) : Byte := if v then 0x01 else 0x00

/-- A number of frames, clamped to 1 to 254 (R91). -/
def framesOperand (a : Int) : Int := clamp a 1 254

/-- The blink period of `SETHILO`: the sum without overflow, saturated at 255 (R91). -/
def periodOperand (a b : Int) : Int := min 255 (framesOperand a + framesOperand b)

/-- The exemption mask: `A mod 2^UNITCOUNT`, or its complement under reading P of C1 (R94). -/
def maskOperand (c : Config) (a : Int) : Byte :=
  BitVec.ofInt 8 ((if c.maskOperandInverted then -a - 1 else a) % 2 ^ c.unitCount)

/-- What `GETMASK` answers: `NBM`, or its complement under reading P of C1 (R95). -/
def maskResponse (c : Config) (nbm : Byte) : Byte :=
  if c.maskOperandInverted then ~~~nbm &&& BitVec.ofNat 8 (2 ^ c.unitCount - 1) else nbm

/-- A byte operand, taken mod 256 (R101, R106). -/
def byteOperand (b : Int) : Byte := BitVec.ofInt 8 (b % 256)

/-- A frame-buffer index, if it names a unit (R37, R101). -/
def indexOperand (c : Config) (a : Int) : Option Nat :=
  if 0 ≤ a ∧ a < c.unitCount then some a.toNat else none

/-- A font id, clamped to 0 to `FONTCOUNT - 1` (R106, R109, D21; log 11). -/
def fontOperand (c : Config) (a : Int) : Nat := (clamp a 0 (c.fontCount - 1)).toNat

end Sys2Proof.Machine
end

