-- ==== Sys2Proof/Machine/Ops.lean ====
section
/-! DEFINITION. The named operations over the frame buffer, the ports and the registers that the meanings share
(R10 of `00_scope.md`, `20_memory.md`, R75 to R78 of `40_tick.md`), presetting and power-on, and the events that are no
operation. The block takes no exception and has no return from one (R113, R122, R123), so none stands here. -/

namespace Sys2Proof.Machine

/-! ## The frame buffer -/

/-- The canonical form: addresses strictly rising, no byte that an unlisted address reads as. -/
abbrev Memory.wf (m : Memory) : Prop :=
  m.Pairwise (fun x y => x.1 < y.1) ∧ ∀ x ∈ m, x.2 ≠ Memory.unlisted

/-- `MemRead(FB, i, 1)` (R10). -/
def Memory.read : Memory → Nat → Byte
  | [], _ => Memory.unlisted
  | (k, v) :: rest, i => if i = k then v else Memory.read rest i

/-- A cell in front of higher ones, left out where it holds what an unlisted address reads as. -/
def Memory.put (i : Nat) (b : Byte) (rest : Memory) : Memory :=
  if b = Memory.unlisted then rest else (i, b) :: rest

/-- `MemWrite(FB, i, 1, b)` (R10), keeping the canonical form. -/
def Memory.write : Memory → Nat → Byte → Memory
  | [], i, b => Memory.put i b []
  | (k, v) :: rest, i, b =>
    if i < k then Memory.put i b ((k, v) :: rest)
    else if i = k then Memory.put i b rest
    else (k, v) :: Memory.write rest i b

/-- Every byte of the frame buffer 0 (R86: "the frame buffer zeroed"). -/
def Memory.zeroed : Memory := []

/-- `FB[i] <- b`. -/
def State.writeFb (s : State) (i : Nat) (b : Byte) : State := { s with fb := s.fb.write i b }

/-! ## The output ports -/

/-- `PortWrite(A, rows)` (R10). -/
def State.writePortA (s : State) (rows : BitVec 6) : State :=
  { s with outA := rows, trace := s.trace ++ [.portA rows] }

/-- `PortWrite(B, rows, select)` (R10, R39: one access). -/
def State.writePortB (s : State) (rows : BitVec 2) (select : BitVec 4) : State :=
  { s with outRows := rows, outSelect := select, trace := s.trace ++ [.portB rows select] }

/-- The clear of step 2: port B, then port A (R69, D9, D10; log 14). -/
def State.makeDark (s : State) : State := (s.writePortB 0 0).writePortA 0

/-- `rowsA(p) = p[7:2]` (R75). -/
def rowsA (p : Byte) : BitVec 6 := p.extractLsb' 2 6

/-- `rowsB(p) = p[1:0]` (R75). -/
def rowsB (p : Byte) : BitVec 2 := p.extractLsb' 0 2

/-- `onehot(u)` (R10), in the four select bits of the bus. -/
def onehot (u : Nat) : BitVec 4 := 1#4 <<< u

/-- Both ports written with the pattern of unit `UNIT`, port A first (R74, R77, R78). -/
def State.light (s : State) : State :=
  let p := s.fb.read s.unit.toNat
  (s.writePortA (rowsA p)).writePortB (rowsB p) (onehot s.unit.toNat)

/-! ## The response port -/

/-- `rsp <- v` (R10, R53). -/
def State.respond (s : State) (v : Byte) : State := { s with responses := s.responses ++ [v] }

/-! ## Reset and power-on -/

/-- Every write of `RESET` but the response (R86): configuration, counters, frame buffer; the ports stay. -/
def State.preset (c : Config) (s : State) : State :=
  { s with
    bright := BitVec.ofNat 8 c.brightReset
    bao := true
    fcnt := BitVec.ofNat 8 c.fcntReset
    fhi := BitVec.ofNat 8 c.fhiReset
    nbm := 0
    slot := BitVec.ofNat 8 (c.slotCount - 1)
    unit := BitVec.ofNat 8 (c.unitCount - 1)
    frame := BitVec.ofNat 8 (c.fcntReset - 1)
    fb := Memory.zeroed }

/-- Power-on: what `RESET` does, and every engine-owned output bit at `OUT_POR` (R131). The trace and the responses are
those since power-on (R10, R148), so they start over (log 3). -/
def State.powerOn (c : Config) (s : State) : State :=
  { s.preset c with
    outA := c.outAPor
    outRows := c.outRowsPor
    outSelect := c.outSelectPor
    trace := []
    responses := [] }

/-! ## Events that are no operation -/

/-- The next event and the state in which it runs (R11, R44). -/
def State.nextInput (s : State) : Option (Input × State) :=
  match s.inputs with
  | [] => none
  | e :: rest => some (e, { s with inputs := rest })

/-- No event: "the block is then idle until the next event" and "holds its state" (R14, R130; log 1). -/
def State.idle (s : State) : State := s

/-- A reserved command word: "no state changes, no port write, `rsp = 0x00`" (R58, D18; log 9). -/
def State.reservedWord (s : State) : State := s.respond 0x00

/-- The event a word of a written run stands for: `0x00` the timer strobe, else a command word (R57). -/
def Input.ofTrace (w : CommandWord) : Input := if opField w = 0 then .strobe else .command w

/-- An event placed before those still to be presented (log 2). -/
def State.present (s : State) (e : Input) : State := { s with inputs := e :: s.inputs }

end Sys2Proof.Machine
end

