-- ==== Sys2Proof/Machine/Flags.lean ====
section
/-! DEFINITION. The block has no flags (R26 of `10_state.md`). What stands in their place are the conditions a `TICK`
computes and uses at once (R69, R71, R73 of `40_tick.md`), each once. All comparisons are unsigned. -/

namespace Sys2Proof.Machine

/-- `SLOT >= BRIGHT`: the condition of the duty-cycle clear (R69). -/
def State.dimmed (s : State) : Bool := s.bright.toNat ≤ s.slot.toNat

/-- `SLOT >= SLOTCOUNT`: a unit rollover (R71). -/
def State.unitRolls (c : Config) (s : State) : Bool := c.slotCount ≤ s.slot.toNat

/-- `UNIT >= UNITCOUNT`: a frame rollover (R71). -/
def State.frameRolls (c : Config) (s : State) : Bool := c.unitCount ≤ s.unit.toNat

/-- `FRAME >= FCNT`: the frame counter wraps (R71). -/
def State.frameWraps (s : State) : Bool := s.fcnt.toNat ≤ s.frame.toNat

/-- `NBM[UNIT] = 1` (R73). -/
def State.exempt (s : State) : Bool := s.nbm.getLsbD s.unit.toNat

/-- The blink visibility gate: `BAO or exempt or (FRAME < FHI)` (R73). -/
def State.visible (s : State) : Bool := s.bao || s.exempt || decide (s.frame.toNat < s.fhi.toNat)

end Sys2Proof.Machine
end

