-- ==== Sys2Proof/Machine/Font.lean ====
section
/-! DEFINITION. The font lookup stage and `FONTGET` (`43_font.md`). -/

namespace Sys2Proof.Machine

/-- `MemRead(ROM, {f, k}, 1)`: the byte of an entry, whose bit 7 is 0 (R24, R38, R108). -/
def readRom (c : Config) (f : Nat) (k : BitVec 7) : Byte := (c.fontRom f k).setWidth 8

/-- The font stage as a pure function of font id and character (R105 to R109): the low 7 bits of the character select the
entry, its bit 7 is OR-ed into the pattern. -/
def fontPattern (c : Config) (a b : Int) : Byte :=
  let ch := byteOperand b
  readRom c (fontOperand c a) (ch.extractLsb' 0 7) ||| (ch &&& 0x80)

/-- `FONTGET A, B` (R106). -/
def State.fontGet (c : Config) (a b : Int) (s : State) : State := s.respond (fontPattern c a b)

/-- `FONTGET A, B` (R106). -/
def execFontget (a b : Int) (s : State) : Host.Outcome State Fault Refusal := .next (s.fontGet Config.reference a b)

end Sys2Proof.Machine
end

