-- ==== Sys2Proof/Machine/FrameBuffer.lean ====
section
/-! DEFINITION. The frame buffer operations `FBWR` and `FBRD` (`42_framebuffer.md`). -/

namespace Sys2Proof.Machine

/-- `FBWR A, B` (R101): an index that names no unit writes nothing (D19; log 8). -/
def State.fbWrite (c : Config) (a b : Int) (s : State) : State :=
  (match indexOperand c a with
    | some i => s.writeFb i (byteOperand b)
    | none => s).respond 0x00

/-- `FBRD A` (R102): an index that names no unit answers `0x00` (D19; log 8). -/
def State.fbRead (c : Config) (a : Int) (s : State) : State :=
  s.respond (match indexOperand c a with
    | some i => s.fb.read i
    | none => 0x00)

/-- `FBWR A, B` (R101). -/
def execFbwr (a b : Int) (s : State) : Host.Outcome State Fault Refusal := .next (s.fbWrite Config.reference a b)

/-- `FBRD A` (R102). -/
def execFbrd (a : Int) (s : State) : Host.Outcome State Fault Refusal := .next (s.fbRead Config.reference a)

end Sys2Proof.Machine
end

