-- ==== Sys2Proof/Machine/Settings.lean ====
section
/-! DEFINITION. `RESET` and the configuration operations (`41_config.md`). Each effect is given for any configuration;
the meanings are those of the reference system. -/

namespace Sys2Proof.Machine

/-! ## Effects -/

/-- `RESET` (R86). -/
def State.resetAll (c : Config) (s : State) : State := (s.preset c).respond 0x00

/-- `SETBRIGHT A` (R87). -/
def State.setBright (c : Config) (a : Int) (s : State) : State :=
  { s with bright := dutyOperand c s.bright a }.respond 0x00

/-- `GETBRIGHT` (R88). -/
def State.getBright (s : State) : State := s.respond s.bright

/-- `SETBLINK A`: `BAO <- not (A != 0)` (R89). -/
def State.setBlink (a : Int) (s : State) : State := { s with bao := !boolOperand a }.respond 0x00

/-- `GETBLINK` (R90). -/
def State.getBlink (s : State) : State := s.respond (boolResponse (!s.bao))

/-- `SETHILO A, B`: both registers in the one event (R91, R47). -/
def State.setHiLo (a b : Int) (s : State) : State :=
  { s with fhi := BitVec.ofInt 8 (framesOperand a), fcnt := BitVec.ofInt 8 (periodOperand a b) }.respond 0x00

/-- `GETHI` (R92). -/
def State.getHi (s : State) : State := s.respond s.fhi

/-- `GETLO`: `FCNT - FHI` (R93). -/
def State.getLo (s : State) : State := s.respond (s.fcnt - s.fhi)

/-- `SETMASK A` (R94). -/
def State.setMask (c : Config) (a : Int) (s : State) : State := { s with nbm := maskOperand c a }.respond 0x00

/-- `GETMASK` (R95). -/
def State.getMask (c : Config) (s : State) : State := s.respond (maskResponse c s.nbm)

/-! ## Meanings -/

/-- `RESET` (R86). -/
def execReset (s : State) : Host.Outcome State Fault Refusal := .next (s.resetAll Config.reference)

/-- `SETBRIGHT A` (R87). -/
def execSetbright (a : Int) (s : State) : Host.Outcome State Fault Refusal := .next (s.setBright Config.reference a)

/-- `GETBRIGHT` (R88). -/
def execGetbright (s : State) : Host.Outcome State Fault Refusal := .next s.getBright

/-- `SETBLINK A` (R89). -/
def execSetblink (a : Int) (s : State) : Host.Outcome State Fault Refusal := .next (s.setBlink a)

/-- `GETBLINK` (R90). -/
def execGetblink (s : State) : Host.Outcome State Fault Refusal := .next s.getBlink

/-- `SETHILO A, B` (R91). -/
def execSethilo (a b : Int) (s : State) : Host.Outcome State Fault Refusal := .next (s.setHiLo a b)

/-- `GETHI` (R92). -/
def execGethi (s : State) : Host.Outcome State Fault Refusal := .next s.getHi

/-- `GETLO` (R93). -/
def execGetlo (s : State) : Host.Outcome State Fault Refusal := .next s.getLo

/-- `SETMASK A` (R94). -/
def execSetmask (a : Int) (s : State) : Host.Outcome State Fault Refusal := .next (s.setMask Config.reference a)

/-- `GETMASK` (R95). -/
def execGetmask (s : State) : Host.Outcome State Fault Refusal := .next (s.getMask Config.reference)

end Sys2Proof.Machine
end

