-- ==== Sys2Proof/Machine/Tick.lean ====
section
/-! DEFINITION. The `TICK` operation, step by step in the order of R81 of `40_tick.md`. -/

namespace Sys2Proof.Machine

/-- Step 1: `SLOT <- SLOT + 1`, 8-bit unsigned (R68). -/
def State.advanceSlot (s : State) : State := { s with slot := s.slot + 1 }

/-- Step 2: the display is made dark when `SLOT >= BRIGHT` (R69). -/
def State.dutyClear (s : State) : State := if s.dimmed then s.makeDark else s

/-- `FRAME <- FRAME + 1`, and 0 when it reaches `FCNT` (R71). -/
def State.advanceFrame (s : State) : State :=
  let s := { s with frame := s.frame + 1 }
  if s.frameWraps then { s with frame := 0 } else s

/-- `SLOT <- 0`, `UNIT <- UNIT + 1`, and at the end of a pass `UNIT <- 0` and the next frame (R71). -/
def State.advanceUnit (c : Config) (s : State) : State :=
  let s := { s with slot := 0, unit := s.unit + 1 }
  if s.frameRolls c then State.advanceFrame { s with unit := 0 } else s

/-- Lighting the unit rolled onto, if it is visible (R73, R74, R77, R79). -/
def State.lightIfVisible (s : State) : State := if s.visible then s.light else s

/-- The whole operation (R81). -/
def State.tick (c : Config) (s : State) : State :=
  let s := s.advanceSlot.dutyClear
  if s.unitRolls c then (s.advanceUnit c).lightIfVisible else s

/-- `TICK` (R67, R81). -/
def execTick (s : State) : Host.Outcome State Fault Refusal := .next (s.tick Config.reference)

end Sys2Proof.Machine
end

