-- ==== Sys2Proof/Machine/Dispatch.lean ====
section
/-! DEFINITION. One arm per operation of R56 of `30_encoding.md`. -/

namespace Sys2Proof.Machine

/-- The meaning of one operation. -/
def exec (i : Instr) (s : State) : Host.Outcome State Fault Refusal :=
  match i with
  | .tick => Sys2Proof.Machine.execTick s
  | .reset => Sys2Proof.Machine.execReset s
  | .setbright a => Sys2Proof.Machine.execSetbright a s
  | .getbright => Sys2Proof.Machine.execGetbright s
  | .setblink a => Sys2Proof.Machine.execSetblink a s
  | .getblink => Sys2Proof.Machine.execGetblink s
  | .sethilo a b => Sys2Proof.Machine.execSethilo a b s
  | .gethi => Sys2Proof.Machine.execGethi s
  | .getlo => Sys2Proof.Machine.execGetlo s
  | .setmask a => Sys2Proof.Machine.execSetmask a s
  | .getmask => Sys2Proof.Machine.execGetmask s
  | .fbwr a b => Sys2Proof.Machine.execFbwr a b s
  | .fbrd a => Sys2Proof.Machine.execFbrd a s
  | .fontget a b => Sys2Proof.Machine.execFontget a b s

end Sys2Proof.Machine
end

