-- ==== Sys2Proof/Machine/Step.lean ====
section
/-! DEFINITION. One step: the next event the environment presents (R11 of `00_scope.md`, R44 of `20_memory.md`, R50 and
R58 of `30_encoding.md`, R131 of `70_reset_and_hazards.md`). -/

namespace Sys2Proof.Machine

/-- One event: a strobe runs `TICK`, a command word runs the command it decodes to, power-on resets the block; with no
event presented the block is idle. -/
def step (s : State) : Host.Outcome State Fault Refusal :=
  match s.nextInput with
  | none => .next s.idle
  | some (.strobe, t) => exec .tick t
  | some (.powerOn, t) => .next (t.powerOn Config.reference)
  | some (.command w, t) =>
    match decodeCommand w with
    | .instr i => exec i t
    | .rejected _ => .next t.reservedWord

/-- `s` with the event of a word of the opcode table presented next (log 2). -/
def State.withFetchWord (s : State) (nbits w : Nat) : State := s.present (Input.ofTrace (wordOfTable nbits w))

end Sys2Proof.Machine
end

