-- ==== Sys2Proof/Machine/Script.lean ====
section
/-! DEFINITION. The pseudo-instructions of R61 of `30_encoding.md`, each an abbreviation for a sequence of events. -/

namespace Sys2Proof.Machine.Script

/-- The event of an operation: the timer strobe for `TICK`, its command word for a command (R57, R66). -/
def event (i : Instr) : Input := Input.ofTrace (encode i)

/-- `TICKS n`. -/
def ticks (n : Nat) : List Input := List.replicate n (event .tick)

/-- `DWELL`: one unit's dwell. -/
def dwell (c : Config) : List Input := ticks c.slotCount

/-- `FRAMES n`: `n` passes over all units. -/
def frames (c : Config) (n : Nat) : List Input := ticks (n * c.slotCount * c.unitCount)

/-- `PUTP i, p`. -/
def putp (i p : Int) : List Input := [event (.fbwr i p)]

/-- `PUTC i, f, ch`: `FBWR` of the response of `FONTGET` (R61, R112). -/
def putc (c : Config) (i f ch : Int) : List Input := [event (.fontget f ch), event (.fbwr i (fontPattern c f ch).toNat)]

/-- `BLINK h, l`. -/
def blink (h l : Int) : List Input := [event (.sethilo h l), event (.setblink 1)]

end Sys2Proof.Machine.Script
end

