-- ==== Sys2Proof/Machine/Display.lean ====
section
/-! DEFINITION. What an observer of the pins sees (R31 of `10_state.md`, R62 of `30_encoding.md`): a port pattern, its
replay from a list of port writes (R10), and the observations selected, lit and dark. All values are logical (D12). -/

namespace Sys2Proof.Machine

/-- The engine-owned bits of both output ports. -/
structure Pins where
  outA : BitVec 6
  outRows : BitVec 2
  outSelect : BitVec 4
  deriving DecidableEq, Repr

namespace Pins

/-- The pins after one port write (R10). -/
def after (p : Pins) : PortWrite → Pins
  | .portA rows => { p with outA := rows }
  | .portB rows select => { p with outRows := rows, outSelect := select }

/-- The pins after a list of port writes, in order. -/
def replay (p : Pins) (ws : List PortWrite) : Pins := ws.foldl Pins.after p

/-- Every engine-owned bit at 0 (the glossary's "Dark" of R12). -/
def cleared : Pins := ⟨0, 0, 0⟩

/-- `rows = OUTA[5:0], OUTB[7:6]`, the pattern on the row lines in the bit order of a pattern byte (R31). -/
def rows (p : Pins) : Byte := p.outA ++ p.outRows

/-- `OUTB` as an 8-bit bus value, bits the engine does not own written as 0 (R62). -/
def busB (p : Pins) : Byte := p.outRows ++ p.outSelect ++ 0#2

/-- Unit `u` is selected: `OUTB[2+u] = 1` (R31). -/
def selected (p : Pins) (u : Nat) : Bool := p.outSelect.getLsbD u

/-- Segment `k` of unit `u` is lit (R31). -/
def lit (p : Pins) (u k : Nat) : Bool := p.selected u && p.rows.getLsbD k

/-- The display is dark: no segment of any unit is lit (R31). -/
def Dark (p : Pins) : Prop := ∀ u k, p.lit u k = false

/-- The pins showing pattern `b` on unit `u` (R75, R80). -/
def showing (b : Byte) (u : Nat) : Pins := ⟨rowsA b, rowsB b, onehot u⟩

end Pins

/-- The pins of a state. -/
def State.pins (s : State) : Pins := ⟨s.outA, s.outRows, s.outSelect⟩

end Sys2Proof.Machine
end

