-- ==== Sys2Proof/Machine/Perform.lean ====
section
/-! DEFINITION. The step function of R11 of `00_scope.md` for any configuration of R7, and runs: a list of operations
under `exec`, a number of ticks. `exec` is `State.perform` of the reference system. -/

namespace Sys2Proof.Machine

/-- The effect of an operation in configuration `c` (R11, R35). -/
def State.perform (c : Config) (i : Instr) (s : State) : State :=
  match i with
  | .tick => s.tick c
  | .reset => s.resetAll c
  | .setbright a => s.setBright c a
  | .getbright => s.getBright
  | .setblink a => s.setBlink a
  | .getblink => s.getBlink
  | .sethilo a b => s.setHiLo a b
  | .gethi => s.getHi
  | .getlo => s.getLo
  | .setmask a => s.setMask c a
  | .getmask => s.getMask c
  | .fbwr a b => s.fbWrite c a b
  | .fbrd a => s.fbRead c a
  | .fontget a b => s.fontGet c a b

/-- `n` ticks in configuration `c`. -/
def State.ticks (c : Config) : Nat → State → State
  | 0, s => s
  | n + 1, s => State.ticks c n (s.tick c)

/-- A list of operations, one after another, as `exec` runs them. -/
def execAll : List Instr → State → Host.Outcome State Fault Refusal
  | [], s => .next s
  | i :: is, s =>
    match exec i s with
    | .next t => execAll is t
    | .fault r => .fault r
    | .refused r => .refused r

end Sys2Proof.Machine
end

