-- ==== Sys2Proof/Safety.lean ====
section
/-! DEFINITION. What a safe state is: the invariants of the reachable states (R32 of `10_state.md`), with the canonical
form of the frame buffer and the agreement of ports and output trace; and the order of the port writes of one event as an
observer of the pins sees it (R139 of `70_reset_and_hazards.md`). -/

namespace Sys2Proof.Safety

open Sys2Proof.Machine

/-- The counters as `RESET` and power-on leave them, until the next tick (R86, R135). -/
abbrev CountersPreset (c : Config) (s : State) : Prop :=
  s.slot.toNat = c.slotCount - 1 ∧ s.unit.toNat = c.unitCount - 1

/-- The invariants of R32 in configuration `c`. Item 7 names the one exception its text leaves out: between a `RESET` and
the next tick the select field keeps the unit that was on display while `UNIT` is preset (log 21). -/
structure Inv (c : Config) (s : State) : Prop where
  /-- Item 1. -/
  bright_range : 1 ≤ s.bright.toNat ∧ s.bright.toNat ≤ c.slotCount
  /-- Item 2. -/
  blink_range : 1 ≤ s.fhi.toNat ∧ s.fhi.toNat < s.fcnt.toNat
  /-- Item 3. -/
  slot_lt : s.slot.toNat < c.slotCount
  /-- Item 4. -/
  unit_lt : s.unit.toNat < c.unitCount
  /-- Item 5: the bound that holds in every reachable state. -/
  frame_le : s.frame.toNat ≤ 254
  /-- Item 6. -/
  mask_lt : s.nbm.toNat < 2 ^ c.unitCount
  /-- R23, R36: the frame buffer is canonical and holds no cell outside it. -/
  fb_wf : s.fb.wf
  fb_cells : ∀ x ∈ s.fb, x.1 < c.unitCount
  /-- Item 7: dark, or the unit of `UNIT` selected, or the counters are preset and the ports are still as at power-on or
  select the unit that was on display. -/
  select_ok : s.pins = Pins.cleared ∨ s.outSelect = onehot s.unit.toNat ∨
    (CountersPreset c s ∧ (s.pins = ⟨c.outAPor, c.outRowsPor, c.outSelectPor⟩ ∨
      ∃ u, u < c.unitCount ∧ s.outSelect = onehot u))
  /-- R10: the ports are what the output trace since power-on says. -/
  ports_traced : s.pins = Pins.replay ⟨c.outAPor, c.outRowsPor, c.outSelectPor⟩ s.trace

/-- The pins never show on unit `u` anything but pattern `b`: no unit is selected, or `u` alone with `b` on the row lines
(R78, R139). -/
def ShowsOnly (p : Pins) (u : Nat) (b : Byte) : Prop := p.outSelect = 0 ∨ p = Pins.showing b u

end Sys2Proof.Safety
end

