-- ==== Sys2Proof/Certificates/Slice0/Obligations.lean ====
section
/-! DEFINITION. The statements for the provers. `Config.reference` is the reference system (R2, R7): `SLOTCOUNT` is
`Config.reference.slotCount`, `UNITCOUNT` is `Config.reference.unitCount`. An equation of states says the whole frame:
every field not named keeps its value. -/

open Sys2Proof Sys2Proof.Machine Sys2Proof.Safety

namespace Sys2Proof.Certificates

/-- `clamp(v, lo, hi)` of R10, as a minimum of a maximum. -/
def nearest (v lo hi : Int) : Int := max lo (min v hi)

/-- The duty and rollover tests of the next tick are made on this value (R68). -/
def slotAhead (s : State) : Byte := s.slot + 1

/-- The next tick is a unit rollover (R71). -/
def rollsOver (s : State) : Prop := Config.reference.slotCount ≤ (slotAhead s).toNat

/-- A unit rollover at `s` is also a frame rollover (R71). -/
def passEnds (s : State) : Prop := Config.reference.unitCount ≤ (s.unit + 1).toNat

/-- `UNIT` after a unit rollover (R71). -/
def unitAhead (s : State) : Byte := if Config.reference.unitCount ≤ (s.unit + 1).toNat then 0 else s.unit + 1

/-- `FRAME` after a unit rollover (R71). -/
def frameAhead (s : State) : Byte :=
  if Config.reference.unitCount ≤ (s.unit + 1).toNat then
    if s.fcnt.toNat ≤ (s.frame + 1).toNat then 0 else s.frame + 1
  else s.frame

/-- The blink visibility gate for unit `u` in frame `f` (R73). -/
def Gate (s : State) (u f : Byte) : Prop := s.bao = true ∨ s.nbm.getLsbD u.toNat = true ∨ f.toNat < s.fhi.toNat

/-- The foreground's part of a state: settings, frame buffer, responses, and the events to come (R120, R125). -/
def SameForeground (s t : State) : Prop :=
  s.bright = t.bright ∧ s.bao = t.bao ∧ s.fcnt = t.fcnt ∧ s.fhi = t.fhi ∧ s.nbm = t.nbm ∧ s.fb = t.fb ∧
  s.responses = t.responses ∧ s.inputs = t.inputs

/-- The four setters of R97. -/
def isSetter (i : Instr) : Prop := i.mnemonic ∈ ["SETBRIGHT", "SETBLINK", "SETHILO", "SETMASK"]

end Sys2Proof.Certificates

open Sys2Proof.Certificates

/-! ## Encoding (R51 to R66) -/

/-- Every operation whose operands fit their fields is read back from its word, `TICK` from its trace code. -/
def Obligations.DecodeReadsBackEncode : Prop :=
  ∀ i : Instr, i.WellFormed → decodeTrace (encode i) = .instr i ∧ (i ≠ .tick → decodeCommand (encode i) = .instr i)

/-- R63: a word is a command exactly when its `op` is 0x01 to 0x0D, and reserved otherwise; the command has that `op`, so
the operand fields take no part in choosing it, and one `op` never names two operations. -/
def Obligations.EveryWordIsCommandOrReserved : Prop :=
  (∀ w : CommandWord,
    if 0x01 ≤ (opField w).toNat ∧ (opField w).toNat ≤ 0x0D then
      ∃ i, decodeCommand w = .instr i ∧ i.op = opField w ∧ i ≠ .tick
    else decodeCommand w = .rejected (.reservedOp (opField w))) ∧
  ∀ i j : Instr, i.op = j.op ↔ i.mnemonic = j.mnemonic

/-- R55: a field the operation does not use is ignored on decode, and is 0 in the word of the operation. -/
def Obligations.UnusedFieldsAreIgnored : Prop :=
  (∀ (v w : CommandWord) (i : Instr), decodeCommand v = .instr i → opField w = opField v →
    (i.operandA ≠ none → aField w = aField v) → (i.operandB ≠ none → bField w = bField v) →
    decodeCommand w = .instr i) ∧
  ∀ i : Instr, (i.operandA = none → aField (encode i) = 0) ∧ (i.operandB = none → bField (encode i) = 0)

/-- The other direction: a decoded command is well-formed, and its word differs from the one decoded in unused fields
only. -/
def Obligations.EncodeWritesBackDecode : Prop :=
  ∀ (w : CommandWord) (i : Instr), decodeCommand w = .instr i →
    i.WellFormed ∧ opField (encode i) = opField w ∧ (i.operandA ≠ none → aField (encode i) = aField w) ∧
    (i.operandB ≠ none → bField (encode i) = bField w)

/-- R51, R52, R56: for each operation code, the word of that code with any two fields decodes to the operation of the
table with the fields sign-extended. -/
def Obligations.OperandsAreSignExtendedFields : Prop :=
  ∀ a b : Field,
    decodeCommand (0x01#8 ++ a ++ b) = .instr .reset ∧
    decodeCommand (0x02#8 ++ a ++ b) = .instr (.setbright a.toInt) ∧
    decodeCommand (0x03#8 ++ a ++ b) = .instr .getbright ∧
    decodeCommand (0x04#8 ++ a ++ b) = .instr (.setblink a.toInt) ∧
    decodeCommand (0x05#8 ++ a ++ b) = .instr .getblink ∧
    decodeCommand (0x06#8 ++ a ++ b) = .instr (.sethilo a.toInt b.toInt) ∧
    decodeCommand (0x07#8 ++ a ++ b) = .instr .gethi ∧
    decodeCommand (0x08#8 ++ a ++ b) = .instr .getlo ∧
    decodeCommand (0x09#8 ++ a ++ b) = .instr (.setmask a.toInt) ∧
    decodeCommand (0x0A#8 ++ a ++ b) = .instr .getmask ∧
    decodeCommand (0x0B#8 ++ a ++ b) = .instr (.fbwr a.toInt b.toInt) ∧
    decodeCommand (0x0C#8 ++ a ++ b) = .instr (.fbrd a.toInt) ∧
    decodeCommand (0x0D#8 ++ a ++ b) = .instr (.fontget a.toInt b.toInt)

/-- Some of the worked encodings of R66 and V-30-1, as words. -/
def Obligations.WorkedEncodingsDecode : Prop :=
  decodeTrace 0x0000000000 = .instr .tick ∧
  decodeCommand 0x0000000000 = .rejected (.reservedOp 0x00) ∧
  decodeCommand 0x02FFFF0000 = .instr (.setbright (-1)) ∧
  decodeCommand 0x06012C0000 = .instr (.sethilo 300 0) ∧
  decodeCommand 0x0B0002003F = .instr (.fbwr 2 0x3F) ∧
  decodeCommand 0x0D000100C1 = .instr (.fontget 1 0xC1) ∧
  decodeCommand 0x0E00000000 = .rejected (.reservedOp 0x0E)

/-! ## A step -/

/-- A strobe runs `TICK` and a command word runs the command it decodes to, each on the state with the event taken off
the events still to come (the model's field `inputs`, log 1). -/
def Obligations.StepRunsTheDecodedOperation : Prop :=
  (∀ (s : State) (rest : List Input), s.inputs = .strobe :: rest → step s = exec .tick { s with inputs := rest }) ∧
  ∀ (s : State) (w : CommandWord) (i : Instr) (rest : List Input), s.inputs = .command w :: rest →
    decodeCommand w = .instr i → step s = exec i { s with inputs := rest }

/-- A word of the opcode table, presented next, is what the next step runs. -/
def Obligations.StepRunsThePresentedTableWord : Prop :=
  ∀ (s : State) (w : Nat) (i : Instr), decodeTableWord 40 w = some i → step (s.withFetchWord 40 w) = exec i s

/-- R58, the hardware form (log 9): a reserved word changes nothing and answers 0x00. -/
def Obligations.ReservedWordChangesNothing : Prop :=
  ∀ (s : State) (w : CommandWord) (rest : List Input), s.inputs = .command w :: rest →
    (opField w = 0x00 ∨ 0x0E ≤ (opField w).toNat) →
    step s = .next { s with inputs := rest, responses := s.responses ++ [0x00] }

/-- R14, R130 (log 1): with no event presented the block holds its state. -/
def Obligations.BlockIsIdleWithoutAnEvent : Prop := ∀ s : State, s.inputs = [] → step s = .next s

/-- R149: every event completes, in every state. -/
def Obligations.EveryEventCompletes : Prop :=
  ∀ s : State, (∃ t, step s = .next t) ∧ ∀ i : Instr, ∃ t, exec i s = .next t

/-- The meanings are those of the general machine in the reference system. -/
def Obligations.ExecIsPerformOfTheReferenceSystem : Prop :=
  ∀ (i : Instr) (s : State), exec i s = .next (s.perform Config.reference i)

/-! ## Reset and power-on -/

/-- R33: the state after power-on, field by field. -/
def Obligations.StateAfterPowerOn : Prop :=
  State.reset.slot = 4 ∧ State.reset.unit = 3 ∧ State.reset.frame = 49 ∧ State.reset.bright = 4 ∧
  State.reset.bao = true ∧ State.reset.fcnt = 50 ∧ State.reset.fhi = 25 ∧ State.reset.nbm = 0 ∧
  (∀ i, State.reset.fb.read i = 0x00) ∧ State.reset.outA = 0 ∧ State.reset.outRows = 0 ∧ State.reset.outSelect = 0

/-- R131, R132: power-on in any state gives what `RESET` gives but for the ports, which it sets to 0 and `RESET` keeps. -/
def Obligations.PowerOnIsResetWithDarkPorts : Prop :=
  ∀ (s : State) (rest : List Input), s.inputs = .powerOn :: rest →
    ∃ t r, step s = .next t ∧ exec .reset { s with inputs := rest } = .next r ∧
      t.slot = r.slot ∧ t.unit = r.unit ∧ t.frame = r.frame ∧ t.bright = r.bright ∧ t.bao = r.bao ∧
      t.fcnt = r.fcnt ∧ t.fhi = r.fhi ∧ t.nbm = r.nbm ∧ t.fb = r.fb ∧
      t.pins = Pins.cleared ∧ r.pins = s.pins ∧ t.slot = 4 ∧ t.unit = 3 ∧ t.frame = 49 ∧ t.bright = 4 ∧
      t.bao = true ∧ t.fcnt = 50 ∧ t.fhi = 25 ∧ t.nbm = 0 ∧ (∀ i, t.fb.read i = 0x00)

/-- The power-on event brings the model to its reset state, observations included (log 3), with the later events kept. -/
def Obligations.PowerOnRestoresTheResetState : Prop :=
  ∀ (s : State) (rest : List Input), s.inputs = .powerOn :: rest →
    step s = .next { State.reset with inputs := rest }

/-- R86: `RESET` in any state. -/
def Obligations.ResetRestoresTheDefaults : Prop :=
  ∀ s : State, ∃ t, exec .reset s = .next t ∧ (∀ i, t.fb.read i = 0x00) ∧
    t = { s with
      bright := 4, bao := true, fcnt := 50, fhi := 25, nbm := 0, slot := 4, unit := 3, frame := 49,
      fb := t.fb, responses := s.responses ++ [0x00] }

/-- R86, R96 law 5: a second `RESET` changes nothing but the list of responses. -/
def Obligations.ResetTwiceIsResetOnce : Prop :=
  ∀ s : State, ∃ t, exec .reset s = .next t ∧
    exec .reset t = .next { t with responses := t.responses ++ [0x00] }

/-- R135: the first tick after `RESET` leaves all three counters at 0 and unit 0 selected with no segment; after a
`SETHILO` in between it leaves `FRAME` at 50 exactly when the new period is above 50. -/
def Obligations.FirstTickAfterReset : Prop :=
  ∀ s : State,
    (∃ t, execAll [.reset, .tick] s = .next t ∧ t.slot = 0 ∧ t.unit = 0 ∧ t.frame = 0 ∧
      t.pins = Pins.showing 0x00 0 ∧
      t.trace = s.trace ++ [.portB 0 0, .portA 0, .portA 0, .portB 0 0b0001]) ∧
    ∀ h l : Int, ∃ t, execAll [.reset, .sethilo h l, .tick] s = .next t ∧ t.slot = 0 ∧ t.unit = 0 ∧
      t.frame = (if 50 < nearest h 1 254 + nearest l 1 254 then 50 else 0) ∧ t.pins = Pins.showing 0x00 0

/-! ## The settings (R85 to R99) -/

/-- R87: `SETBRIGHT` stores its operand clamped to 1 to `SLOTCOUNT` and changes nothing else. -/
def Obligations.SetbrightClampsTheDuty : Prop :=
  ∀ (a : Int) (s : State), ∃ t, exec (.setbright a) s = .next t ∧
    (t.bright.toNat : Int) = nearest a 1 Config.reference.slotCount ∧
    t = { s with bright := t.bright, responses := s.responses ++ [0x00] }

/-- R88: `GETBRIGHT` answers `BRIGHT`, in 1 to `SLOTCOUNT` where the invariant holds, after `SETBRIGHT v` answers `v` for
every legal `v`, and after `RESET` answers 4. -/
def Obligations.GetbrightAnswersTheDuty : Prop :=
  (∀ s : State, exec .getbright s = .next { s with responses := s.responses ++ [s.bright] }) ∧
  (∀ s : State, Inv Config.reference s → 1 ≤ s.bright.toNat ∧ s.bright.toNat ≤ Config.reference.slotCount) ∧
  ∀ (v : Nat) (s : State), 1 ≤ v → v ≤ Config.reference.slotCount →
    (∃ t, execAll [.setbright v, .getbright] s = .next t ∧
      t.responses = s.responses ++ [0x00, BitVec.ofNat 8 v]) ∧
    ∃ t, execAll [.reset, .getbright] s = .next t ∧ t.responses = s.responses ++ [0x00, 4]

/-- R89: `BAO <- (A = 0)`, on the whole operand, and nothing else; disabling makes every unit visible. -/
def Obligations.SetblinkStoresTheComplement : Prop :=
  ∀ (a : Int) (s : State), ∃ t, exec (.setblink a) s = .next t ∧
    t = { s with bao := decide (a = 0), responses := s.responses ++ [0x00] } ∧
    (a = 0 → ∀ u f, Gate t u f)

/-- R90: `GETBLINK` answers whether blinking is enabled; after `RESET` it is not. -/
def Obligations.GetblinkAnswersTheMode : Prop :=
  ∀ s : State,
    exec .getblink s = .next { s with responses := s.responses ++ [if s.bao = false then 0x01 else 0x00] } ∧
    ∃ t, execAll [.reset, .getblink] s = .next t ∧ t.responses = s.responses ++ [0x00, 0x00]

/-- R91: `SETHILO` stores the clamped hi and the saturated sum, in one event, keeps `1 <= FHI < FCNT <= 255`, and changes
nothing else. -/
def Obligations.SethiloStoresDurationAndPeriod : Prop :=
  ∀ (a b : Int) (s : State), ∃ t, exec (.sethilo a b) s = .next t ∧
    (t.fhi.toNat : Int) = nearest a 1 254 ∧
    (t.fcnt.toNat : Int) = min 255 (nearest a 1 254 + nearest b 1 254) ∧
    1 ≤ t.fhi.toNat ∧ t.fhi.toNat < t.fcnt.toNat ∧ t.fcnt.toNat ≤ 255 ∧
    t = { s with fhi := t.fhi, fcnt := t.fcnt, responses := s.responses ++ [0x00] }

/-- R92: `GETHI` answers `FHI`, in 1 to 254 where the invariant holds, the clamped hi after `SETHILO`, and 25 after
`RESET`. -/
def Obligations.GethiAnswersTheOnDuration : Prop :=
  (∀ s : State, exec .gethi s = .next { s with responses := s.responses ++ [s.fhi] }) ∧
  (∀ s : State, Inv Config.reference s → 1 ≤ s.fhi.toNat ∧ s.fhi.toNat ≤ 254) ∧
  ∀ (a b : Int) (s : State),
    (∃ t, execAll [.sethilo a b, .gethi] s = .next t ∧
      t.responses = s.responses ++ [0x00, BitVec.ofInt 8 (nearest a 1 254)]) ∧
    ∃ t, execAll [.reset, .gethi] s = .next t ∧ t.responses = s.responses ++ [0x00, 25]

/-- R93: `GETLO` answers `FCNT - FHI`, without a borrow and in 1 to 254 where the invariant holds, and after `SETHILO`
the off duration that is left. -/
def Obligations.GetloAnswersTheOffDuration : Prop :=
  (∀ s : State, ∃ r, exec .getlo s = .next { s with responses := s.responses ++ [r] } ∧
    (Inv Config.reference s → r.toNat = s.fcnt.toNat - s.fhi.toNat ∧ 1 ≤ r.toNat ∧ r.toNat ≤ 254)) ∧
  ∀ (a b : Int) (s : State), ∃ t, execAll [.sethilo a b, .getlo] s = .next t ∧
    t.responses = s.responses ++
      [0x00, BitVec.ofInt 8 (min 255 (nearest a 1 254 + nearest b 1 254) - nearest a 1 254)]

/-- R94: bit `u` of `NBM` is bit `u` of the operand for every unit, the other bits are 0, and nothing else changes. -/
def Obligations.SetmaskKeepsOneBitPerUnit : Prop :=
  ∀ (a : Int) (s : State), ∃ t, exec (.setmask a) s = .next t ∧
    (t.nbm.toNat : Int) = a % 2 ^ Config.reference.unitCount ∧
    (∀ u, t.nbm.getLsbD u = (decide (u < Config.reference.unitCount) && (BitVec.ofInt 16 a).getLsbD u)) ∧
    t = { s with nbm := t.nbm, responses := s.responses ++ [0x00] }

/-- R95: `GETMASK` answers the mask in the orientation in which it was set (which of the two orientations: log 13). -/
def Obligations.GetmaskAnswersTheMask : Prop :=
  (∀ s : State, exec .getmask s = .next { s with responses := s.responses ++ [s.nbm] }) ∧
  ∀ (m : Int) (s : State), ∃ t, execAll [.setmask m, .getmask] s = .next t ∧
    t.responses = s.responses ++ [0x00, BitVec.ofInt 8 (m % 2 ^ Config.reference.unitCount)]

/-- R94, R95: the round trip of the mask in every legal configuration, under both readings of C1 (log 13). -/
def Obligations.MaskRoundTripInBothReadings : Prop :=
  ∀ (c : Config) (m : Int) (s : State), c.Legal →
    ((s.setMask c m).getMask c).responses = s.responses ++ [0x00, BitVec.ofInt 8 (m % 2 ^ c.unitCount)]

/-- R96 laws 1 to 4 and 6: what a setter stored is read back after any number of ticks in between (an out-of-range
`SETBRIGHT` clamps: the policy of D7 and U2, log 12; the orientation of the mask: log 13). -/
def Obligations.SettingsSurviveTicks : Prop :=
  ∀ (n : Nat) (s : State) (a b : Int),
    (∃ t, execAll (.setbright a :: List.replicate n .tick ++ [.getbright]) s = .next t ∧
      t.responses = s.responses ++ [0x00, BitVec.ofInt 8 (nearest a 1 Config.reference.slotCount)]) ∧
    (∃ t, execAll (.setblink a :: List.replicate n .tick ++ [.getblink]) s = .next t ∧
      t.responses = s.responses ++ [0x00, if a = 0 then 0x00 else 0x01]) ∧
    (∃ t, execAll (.sethilo a b :: List.replicate n .tick ++ [.gethi, .getlo]) s = .next t ∧
      t.responses = s.responses ++ [0x00, BitVec.ofInt 8 (nearest a 1 254),
        BitVec.ofInt 8 (min 255 (nearest a 1 254 + nearest b 1 254) - nearest a 1 254)]) ∧
    (∃ t, execAll (.setmask a :: List.replicate n .tick ++ [.getmask]) s = .next t ∧
      t.responses = s.responses ++ [0x00, BitVec.ofInt 8 (a % 2 ^ Config.reference.unitCount)])

/-- R97: two different setters can be exchanged. -/
def Obligations.SettersAreIndependent : Prop :=
  ∀ (i j : Instr) (s : State), isSetter i → isSetter j → i.mnemonic ≠ j.mnemonic →
    ∃ t, execAll [i, j] s = .next t ∧ execAll [j, i] s = .next t

/-- R119, R120, R125: who writes what. `TICK` writes no setting, no frame-buffer byte and answers nothing; a command
writes no port and, but for `RESET`, no counter; only `FBWR` and `RESET` write the frame buffer; the six `GET`s, `FBRD`
and `FONTGET` change no state of the block; no operation takes an event off the events to come. -/
def Obligations.ContextsKeepTheirRights : Prop :=
  ∀ (i : Instr) (s : State), ∃ t, exec i s = .next t ∧ t.inputs = s.inputs ∧
    (i = .tick → t.bright = s.bright ∧ t.bao = s.bao ∧ t.fcnt = s.fcnt ∧ t.fhi = s.fhi ∧ t.nbm = s.nbm ∧
      t.fb = s.fb ∧ t.responses = s.responses) ∧
    (i ≠ .tick → t.pins = s.pins ∧ t.trace = s.trace ∧ ∃ r, t.responses = s.responses ++ [r]) ∧
    (i ≠ .tick → i ≠ .reset → t.slot = s.slot ∧ t.unit = s.unit ∧ t.frame = s.frame) ∧
    (i.mnemonic ∉ ["FBWR", "RESET"] → ∀ k, t.fb.read k = s.fb.read k) ∧
    (i.mnemonic ∈ ["GETBRIGHT", "GETBLINK", "GETHI", "GETLO", "GETMASK", "FBRD", "FONTGET"] →
      t = { s with responses := t.responses })

/-! ## The frame buffer (R100 to R104) -/

/-- R101 (an index outside the buffer: the hardware form, log 8): `FBWR A, B` stores `B mod 256` in byte `A` of the
buffer, leaves every other byte, and changes nothing else; an index that names no unit stores nothing. -/
def Obligations.FbwrStoresOneByte : Prop :=
  ∀ (a b : Int) (s : State), s.fb.wf → ∃ t, exec (.fbwr a b) s = .next t ∧
    (∀ j : Nat, t.fb.read j = if a = j ∧ j < Config.reference.unitCount then BitVec.ofInt 8 b else s.fb.read j) ∧
    (¬ (0 ≤ a ∧ a < Config.reference.unitCount) → t.fb = s.fb) ∧
    t = { s with fb := t.fb, responses := s.responses ++ [0x00] }

/-- R102 (an index outside the buffer: the hardware form, log 8): `FBRD A` answers byte `A`. -/
def Obligations.FbrdAnswersTheByte : Prop :=
  ∀ (a : Int) (s : State), exec (.fbrd a) s = .next { s with
    responses := s.responses ++
      [if 0 ≤ a ∧ a < Config.reference.unitCount then s.fb.read a.toNat else 0x00] }

/-- R45, R103: a write shows at the first visible rollover onto its unit and changes nothing a tick does before. -/
def Obligations.WriteShowsAtTheUnitsOwnRollover : Prop :=
  ∀ (s : State) (a : Nat) (b : Int), Inv Config.reference s → a < Config.reference.unitCount →
    ∃ w t u, exec (.fbwr a b) s = .next w ∧ exec .tick w = .next t ∧ exec .tick s = .next u ∧
      (t.slot = u.slot ∧ t.unit = u.unit ∧ t.frame = u.frame) ∧
      (¬ (rollsOver s ∧ (unitAhead s).toNat = a) → t.pins = u.pins ∧ t.trace = u.trace) ∧
      (rollsOver s → (unitAhead s).toNat = a → Gate s (unitAhead s) (frameAhead s) →
        t.pins = Pins.showing (BitVec.ofInt 8 b) a)

/-! ## The font stage (R105 to R112) -/

/-- R106, R107, R108: `FONTGET A, B` answers the entry of the clamped font id and the low 7 bits of the character, with
the character's bit 7 as decimal point, and changes nothing. -/
def Obligations.FontgetLooksTheCharacterUp : Prop :=
  ∀ (a b : Int) (s : State), ∃ r, exec (.fontget a b) s = .next { s with responses := s.responses ++ [r] } ∧
    r = (Config.reference.fontRom (if nearest a 0 1 = 0 then 0 else 1) (BitVec.ofInt 7 b)).setWidth 8 |||
      (BitVec.ofInt 8 b &&& 0x80) ∧
    r.getLsbD 7 = (BitVec.ofInt 8 b).getLsbD 7

/-- R111 laws 1 to 4: the decimal point is orthogonal to the character (bit 7 of every entry is 0: D22, log 10), and font
ids are clamped (D21 and U1, log 11). -/
def Obligations.DecimalPointIsOrthogonal : Prop :=
  ∃ get : Int → Int → Byte,
    (∀ (f ch : Int) (s : State), exec (.fontget f ch) s = .next { s with responses := s.responses ++ [get f ch] }) ∧
    (∀ (f : Int) (ch : Byte), get f ch.toNat = get f (ch &&& 0x7F).toNat ||| (ch &&& 0x80)) ∧
    (∀ (f : Int) (ch : Byte), get f (ch ||| 0x80).toNat &&& 0x7F = get f (ch &&& 0x7F).toNat) ∧
    (∀ (f : Int) (ch : Byte), get f (ch &&& 0x7F).toNat ||| 0x80 = get f (ch ||| 0x80).toNat) ∧
    (∀ f ch : Int, get f ch = get (nearest f 0 1) ch)

/-- R111 law 5: `FONTGET` can be moved past every other event; only the place of its response changes. -/
def Obligations.FontgetCommutesWithEveryEvent : Prop :=
  ∀ (a b : Int) (i : Instr) (s : State), ∃ t u r, execAll [.fontget a b, i] s = .next t ∧
    execAll [i, .fontget a b] s = .next u ∧ { t with responses := u.responses } = u ∧
    (∃ q, t.responses = s.responses ++ r :: q ∧ u.responses = s.responses ++ q ++ [r])

/-- R61, R112: `PUTC i, f, c` answers the font pattern and stores it in byte `i`, and changes nothing else of the block. -/
def Obligations.PutcStoresThePatternOfTheCharacter : Prop :=
  ∀ (i : Nat) (f c : Int) (s : State) (rest : List Input), i < Config.reference.unitCount → fitsField f → fitsField c →
    s.fb.wf → s.inputs = Script.putc Config.reference i f c ++ rest →
    ∃ t r, exec (.fontget f c) s = .next { s with responses := s.responses ++ [r] } ∧
      Host.Core.run Sys2Proof.core 2 s = .next t ∧
      (∀ j : Nat, t.fb.read j = if j = i then r else s.fb.read j) ∧
      t = { s with fb := t.fb, responses := s.responses ++ [r, 0x00], inputs := rest }

/-! ## The tick (R67 to R84) -/

/-- R68, R71: the three nested counters, all tests `>=` on 8-bit unsigned values; in states where the invariant holds no
addition wraps (beyond them the sum modulo 256 is decision D4, log 20). -/
def Obligations.TickAdvancesTheCounters : Prop :=
  ∀ s : State, ∃ t, exec .tick s = .next t ∧
    (rollsOver s → t.slot = 0 ∧ t.unit = unitAhead s ∧ t.frame = frameAhead s) ∧
    (¬ rollsOver s → t.slot = slotAhead s ∧ t.unit = s.unit ∧ t.frame = s.frame) ∧
    (Inv Config.reference s → (s.slot + 1).toNat = s.slot.toNat + 1 ∧ (s.unit + 1).toNat = s.unit.toNat + 1 ∧
      (s.frame + 1).toNat = s.frame.toNat + 1)

/-- R67: what a tick leaves alone. -/
def Obligations.TickWritesNoSetting : Prop :=
  ∀ s : State, ∃ t, exec .tick s = .next t ∧
    t = { s with slot := t.slot, unit := t.unit, frame := t.frame, outA := t.outA, outRows := t.outRows,
                 outSelect := t.outSelect, trace := t.trace }

/-- R69: a tick whose advanced `SLOT` is at least `BRIGHT` first clears both ports, B before A (D9 and D10, log 14);
otherwise it clears nothing. -/
def Obligations.TickClearsAtTheDutyBound : Prop :=
  ∀ s : State, ∃ t later, exec .tick s = .next t ∧
    t.trace = s.trace ++ (if s.bright.toNat ≤ (slotAhead s).toNat then [.portB 0 0, .portA 0] else []) ++ later ∧
    (¬ rollsOver s → later = []) ∧
    (rollsOver s → later = [] ∨ ∃ r, later = [.portA (rowsA r), .portB (rowsB r) (onehot (unitAhead s).toNat)])

/-- R69 to R71, R83: a tick that is not a unit rollover never lights a unit: the ports are cleared at the duty bound and
kept below it, whatever the settings are now (all owned bits cleared, B before A: D9 and D10, log 14). -/
def Obligations.TickBetweenRolloversNeverLights : Prop :=
  ∀ s : State, ¬ rollsOver s →
    (s.bright.toNat ≤ (slotAhead s).toNat → exec .tick s = .next { s with
      slot := slotAhead s, outA := 0, outRows := 0, outSelect := 0,
      trace := s.trace ++ [.portB 0 0, .portA 0] }) ∧
    ((slotAhead s).toNat < s.bright.toNat → exec .tick s = .next { s with slot := slotAhead s })

/-- R73 to R78: a unit rollover onto a visible unit reads that unit's byte and makes exactly four port writes, the two of
the clear and then A before B (D9 and D10, log 14). -/
def Obligations.RolloverLightsAVisibleUnit : Prop :=
  ∀ s : State, rollsOver s → s.bright.toNat ≤ Config.reference.slotCount → Gate s (unitAhead s) (frameAhead s) →
    ∀ p, p = s.fb.read (unitAhead s).toNat →
      exec .tick s = .next { s with
        slot := 0, unit := unitAhead s, frame := frameAhead s,
        outA := p.extractLsb' 2 6, outRows := p.extractLsb' 0 2, outSelect := 1#4 <<< (unitAhead s).toNat,
        trace := s.trace ++ [.portB 0 0, .portA 0, .portA (p.extractLsb' 2 6),
          .portB (p.extractLsb' 0 2) (1#4 <<< (unitAhead s).toNat)] }

/-- R73, R79: a unit rollover onto a unit that is not visible makes the two clearing writes only and leaves the display
dark (D9 and D10, log 14). -/
def Obligations.RolloverLeavesAHiddenUnitDark : Prop :=
  ∀ s : State, rollsOver s → s.bright.toNat ≤ Config.reference.slotCount → ¬ Gate s (unitAhead s) (frameAhead s) →
    exec .tick s = .next { s with
      slot := 0, unit := unitAhead s, frame := frameAhead s, outA := 0, outRows := 0, outSelect := 0,
      trace := s.trace ++ [.portB 0 0, .portA 0] }

/-- R31, R75, R76: where each segment of a pattern goes on the two buses, that nothing of the pattern is lost, and that
exactly the segments of the pattern are lit, on the selected unit alone. -/
def Obligations.WiringSplitIsExact : Prop :=
  ∀ (p : Byte) (u : Nat), u < Config.reference.unitCount →
    (Pins.showing p u).outA.toNat = p.toNat / 4 ∧
    (Pins.showing p u).busB = ((p &&& 0x03) <<< 6 ||| 1#8 <<< (2 + u)) ∧
    (Pins.showing p u).rows = p ∧
    (Pins.showing p u).busB.getLsbD 6 = p.getLsbD 0 ∧ (Pins.showing p u).busB.getLsbD 7 = p.getLsbD 1 ∧
    (∀ k, k < 6 → (Pins.showing p u).outA.getLsbD k = p.getLsbD (k + 2)) ∧
    (∀ v k, (Pins.showing p u).lit v k = (decide (v = u) && p.getLsbD k))

/-- R78, R139: at every point of a tick's port writes after the first, no unit is selected, or the unit of `UNIT` alone
with its frame-buffer byte on the row lines (the clear writes B before A: D10 and U8, log 14). -/
def Obligations.NoUnitShowsAnothersPattern : Prop :=
  ∀ s : State, Inv Config.reference s → ∃ t ws, exec .tick s = .next t ∧ t.trace = s.trace ++ ws ∧
    t.pins = Pins.replay s.pins ws ∧
    ∀ shown, shown <+: ws → shown ≠ [] →
      ShowsOnly (Pins.replay s.pins shown) t.unit.toNat (s.fb.read t.unit.toNat)

/-- R45, R74: a tick reads no frame-buffer byte but that of the unit it rolls onto, and that one only if it is
visible. -/
def Obligations.TickReadsOneByteAtMost : Prop :=
  ∀ (s : State) (m : Memory),
    (rollsOver s → Gate s (unitAhead s) (frameAhead s) →
      m.read (unitAhead s).toNat = s.fb.read (unitAhead s).toNat) →
    ∃ t, exec .tick s = .next t ∧ exec .tick { s with fb := m } = .next { t with fb := m }

/-- R17, R72: after every frame rollover `FRAME < FCNT`, whatever `FRAME` was. -/
def Obligations.FrameReentersItsRangeAtAPass : Prop :=
  ∀ s : State, rollsOver s → passEnds s → 1 ≤ s.fcnt.toNat →
    ∃ t, exec .tick s = .next t ∧ t.unit = 0 ∧ t.frame.toNat < t.fcnt.toNat

/-- R73, R141: while `FRAME >= FCNT`, a blinking unit rolled onto within the pass is not shown and `FRAME` stays (dark is
all owned bits 0: D9, log 14). -/
def Obligations.ShrunkPeriodHidesBlinkingUnits : Prop :=
  ∀ s : State, Inv Config.reference s → rollsOver s → ¬ passEnds s → s.fcnt.toNat ≤ s.frame.toNat →
    s.bao = false → s.nbm.getLsbD (unitAhead s).toNat = false →
    ∃ t, exec .tick s = .next t ∧ t.frame = s.frame ∧ t.pins = Pins.cleared

/-! ## Invariants and the whole machine -/

/-- R32 holds at power-on. -/
def Obligations.ResetStateIsSafe : Prop := Inv Config.reference State.reset

/-- R32: every step keeps the invariants, the canonical frame buffer and the agreement of ports and trace among them. -/
def Obligations.StepKeepsTheInvariants : Prop :=
  ∀ s : State, Inv Config.reference s → ∃ t, step s = .next t ∧ Inv Config.reference t

/-- R32, R7: so it is in every legal configuration, under both policies of U2 and both readings of C1. -/
def Obligations.EveryLegalConfigurationIsSafe : Prop :=
  ∀ c : Config, c.Legal → Inv c (State.afterPowerOn c) ∧
    ∀ s : State, Inv c s → Inv c (s.powerOn c) ∧ ∀ i : Instr, Inv c (s.perform c i)

/-- R82, in any legal configuration: with the counters as `RESET` leaves them and nothing issued, the three counters and
the display after `t` ticks (the presets: D5, log 5; dark is all owned bits 0: D9, log 14). -/
def Obligations.SteadyStateSchedule : Prop :=
  ∀ (c : Config) (s : State), c.Legal → Inv c s →
    s.slot.toNat = c.slotCount - 1 → s.unit.toNat = c.unitCount - 1 → s.frame.toNat = 49 →
    ∀ n : Nat, ∀ r, r = s.ticks c (n + 1) →
      r.slot.toNat = n % c.slotCount ∧
      r.unit.toNat = n / c.slotCount % c.unitCount ∧
      r.frame.toNat =
        ((if s.fcnt.toNat ≤ 50 then 0 else 50) + n / (c.slotCount * c.unitCount)) % s.fcnt.toNat ∧
      (r.slot.toNat < s.bright.toNat → Gate s r.unit r.frame →
        r.pins = Pins.showing (s.fb.read r.unit.toNat) r.unit.toNat) ∧
      (¬ (r.slot.toNat < s.bright.toNat ∧ Gate s r.unit r.frame) → r.pins = Pins.cleared)

/-- A run of strobes is that many ticks (none lost: D24, log 19). -/
def Obligations.StrobesRunTicks : Prop :=
  ∀ (n : Nat) (s : State) (rest : List Input), s.inputs = List.replicate n .strobe ++ rest →
    Host.Core.run Sys2Proof.core n s = .next (State.ticks Config.reference n { s with inputs := rest })

/-- R98, R120, R142: nothing the foreground ever reads depends on the counters or the ports. -/
def Obligations.ForegroundCannotSeeTheCounters : Prop :=
  ∀ (n : Nat) (s t : State), SameForeground s t →
    ∃ s' t', Host.Core.run Sys2Proof.core n s = .next s' ∧ Host.Core.run Sys2Proof.core n t = .next t' ∧
      SameForeground s' t'

/-- R96 law 6, R119: the strobes of a run change no answer: without them the foreground sees the same. -/
def Obligations.StrobesChangeNoAnswer : Prop :=
  ∀ (es : List Input) (s : State),
    ∃ t u, Host.Core.run Sys2Proof.core es.length { s with inputs := es } = .next t ∧
      Host.Core.run Sys2Proof.core (es.filter (· ≠ .strobe)).length
        { s with inputs := es.filter (· ≠ .strobe) } = .next u ∧
      SameForeground t u
end

