-- ==== Sys2Proof/Laws/Encoding.lean ====
section
/-! SUPPORT. The three fields of a word. -/

namespace Sys2Proof

@[simp] theorem opField_wordOf (op : Byte) (a b : Field) : opField (wordOf op a b) = op := by
  unfold opField wordOf
  ext i hi
  simp only [BitVec.getElem_extractLsb', BitVec.getLsbD_append]
  simp [show ¬ 32 + i < 16 by omega, show ¬ 32 + i - 16 < 16 by omega, show 32 + i - 16 - 16 = i by omega, hi]

@[simp] theorem aField_wordOf (op : Byte) (a b : Field) : aField (wordOf op a b) = a := by
  unfold aField wordOf
  ext i hi
  simp only [BitVec.getElem_extractLsb', BitVec.getLsbD_append]
  simp [hi]

@[simp] theorem bField_wordOf (op : Byte) (a b : Field) : bField (wordOf op a b) = b := by
  unfold bField wordOf
  ext i hi
  simp only [BitVec.getElem_extractLsb', BitVec.getLsbD_append]
  simp [hi]

/-- A wider operand port can present every value a narrower one can (R7, D8); the meanings do not read the width. -/
theorem fitsOperand_mono {c d : Config} (h : c.opw ≤ d.opw) {v : Int} (hv : c.fitsOperand v) : d.fitsOperand v := by
  have := pow_le_pow_right₀ (by decide : (1 : Int) ≤ 2) (Nat.sub_le_sub_right h 1)
  unfold Config.fitsOperand at *
  omega

/-- The bounds of a field in numbers (R9). -/
theorem fitsField_iff {v : Int} : fitsField v ↔ -32768 ≤ v ∧ v < 32768 := Iff.rfl

/-- An operand that fits its field is the field's value, sign-extended (R52). -/
theorem toInt_fieldOf {v : Int} (h : fitsField v) : (fieldOf (some v)).toInt = v := by
  rw [fitsField_iff] at h
  simp only [fieldOf, Option.getD_some, BitVec.toInt_ofInt]
  exact Int.bmod_eq_of_le (by omega) (by omega)

end Sys2Proof
end

