-- ==== Sys2Proof/Laws/Memory.lean ====
section
/-! SUPPORT. What the frame buffer's operations do: a read after a write, and the canonical form. -/

namespace Sys2Proof.Machine.Memory

theorem read_put (i j : Nat) (b : Byte) (rest : Memory) (h : rest.read i = unlisted) :
    (put i b rest).read j = if j = i then b else rest.read j := by
  unfold put
  by_cases hb : b = unlisted
  · by_cases hj : j = i
    · simp [hb, hj, h]
    · simp [hb, hj]
  · simp [hb, read]

/-- A buffer whose addresses all lie above `i` has nothing listed at `i`. -/
theorem read_below (m : Memory) (i : Nat) (h : ∀ x ∈ m, i < x.1) : m.read i = unlisted := by
  induction m with
  | nil => rfl
  | cons x rest ih =>
    have hx := h x (by simp)
    simp only [read, Nat.ne_of_lt hx, if_false]
    exact ih fun y hy => h y (by simp [hy])

theorem read_put_other (i j : Nat) (b : Byte) (rest : Memory) (h : j ≠ i) :
    (put i b rest).read j = rest.read j := by
  unfold put
  split
  · rfl
  · simp [read, h]

/-- A write leaves every other byte alone. -/
theorem read_write_other (m : Memory) (i j : Nat) (b : Byte) (h : j ≠ i) :
    (m.write i b).read j = m.read j := by
  induction m with
  | nil => exact read_put_other i j b [] h
  | cons x rest ih =>
    obtain ⟨k, v⟩ := x
    simp only [write]
    split
    · exact read_put_other i j b _ h
    · split
      · rename_i hik
        rw [read_put_other i j b rest h]
        simp [read, ← hik, h]
      · simp [read, ih]

/-- A read after a write to the same byte gives the value written. -/
theorem read_write_same (m : Memory) (i : Nat) (b : Byte) (h : m.wf) : (m.write i b).read i = b := by
  induction m with
  | nil => simp [write, read_put i i b [] rfl]
  | cons x rest ih =>
    obtain ⟨k, v⟩ := x
    obtain ⟨hp, hn⟩ := h
    rw [List.pairwise_cons] at hp
    simp only [write]
    split
    · rename_i hik
      have : ∀ y ∈ (k, v) :: rest, i < y.1 := by
        intro y hy
        rcases List.mem_cons.1 hy with rfl | hy
        · exact hik
        · exact Nat.lt_trans hik (hp.1 y hy)
      simp [read_put _ _ _ _ (read_below _ _ this)]
    · split
      · rename_i hik
        subst hik
        simp [read_put _ _ _ _ (read_below _ _ hp.1)]
      · rename_i h1 h2
        simp only [read, h2, if_false]
        exact ih ⟨hp.2, fun y hy => hn y (by simp [hy])⟩

theorem mem_put {i : Nat} {b : Byte} {rest : Memory} {x : Host.Cell} (h : x ∈ put i b rest) :
    (x = (i, b) ∧ b ≠ unlisted) ∨ x ∈ rest := by
  unfold put at h
  split at h
  · exact .inr h
  · rcases List.mem_cons.1 h with rfl | h
    · exact .inl ⟨rfl, ‹_›⟩
    · exact .inr h

/-- What a write can list: the byte written, or what was listed before. -/
theorem mem_write {m : Memory} {i : Nat} {b : Byte} {x : Host.Cell} (h : x ∈ m.write i b) :
    (x = (i, b) ∧ b ≠ unlisted) ∨ x ∈ m := by
  induction m with
  | nil => exact mem_put h
  | cons y rest ih =>
    obtain ⟨k, v⟩ := y
    simp only [write] at h
    split at h
    · exact mem_put h
    · split at h
      · exact (mem_put h).imp_right (List.mem_cons_of_mem _)
      · rcases List.mem_cons.1 h with rfl | h
        · exact .inr (by simp)
        · exact (ih h).imp_right (List.mem_cons_of_mem _)

theorem put_wf {i : Nat} {b : Byte} {rest : Memory} (h : rest.wf) (hi : ∀ x ∈ rest, i < x.1) : (put i b rest).wf := by
  unfold put
  split
  · exact h
  · exact ⟨List.pairwise_cons.2 ⟨hi, h.1⟩, by
      intro x hx
      rcases List.mem_cons.1 hx with rfl | hx
      · assumption
      · exact h.2 x hx⟩

/-- Every write keeps the canonical form. -/
theorem write_wf (m : Memory) (i : Nat) (b : Byte) (h : m.wf) : (m.write i b).wf := by
  induction m with
  | nil => exact put_wf h (by simp)
  | cons y rest ih =>
    obtain ⟨k, v⟩ := y
    obtain ⟨hp, hn⟩ := h
    rw [List.pairwise_cons] at hp
    have hr : Memory.wf rest := ⟨hp.2, fun y hy => hn y (by simp [hy])⟩
    simp only [write]
    split
    · rename_i hik
      refine put_wf ⟨List.pairwise_cons.2 hp, hn⟩ ?_
      intro y hy
      rcases List.mem_cons.1 hy with rfl | hy
      · exact hik
      · exact Nat.lt_trans hik (hp.1 y hy)
    · split
      · rename_i hik
        exact put_wf hr fun y hy => hik ▸ hp.1 y hy
      · rename_i h1 h2
        refine ⟨List.pairwise_cons.2 ⟨fun y hy => ?_, (ih hr).1⟩, fun y hy => ?_⟩
        · rcases mem_write hy with ⟨rfl, -⟩ | hy
          · exact Nat.lt_of_le_of_ne (Nat.le_of_not_lt h1) (Ne.symm h2)
          · exact hp.1 y hy
        · rcases List.mem_cons.1 hy with rfl | hy
          · exact hn _ (by simp)
          · exact (ih hr).2 y hy

theorem zeroed_wf : Memory.zeroed.wf := ⟨List.Pairwise.nil, by simp [zeroed]⟩

@[simp] theorem read_zeroed (i : Nat) : Memory.zeroed.read i = 0x00 := rfl

end Sys2Proof.Machine.Memory
end

