-- ==== Sys2Proof/Laws/Operands.lean ====
section
/-! SUPPORT. The ranges of the narrowed operands, and the reference system's numbers. -/

namespace Sys2Proof.Machine

@[simp] theorem reference_unitCount : Config.reference.unitCount = 4 := rfl
@[simp] theorem reference_slotCount : Config.reference.slotCount = 5 := rfl
@[simp] theorem reference_brightReset : Config.reference.brightReset = 4 := rfl
@[simp] theorem reference_fcntReset : Config.reference.fcntReset = 50 := rfl
@[simp] theorem reference_fhiReset : Config.reference.fhiReset = 25 := rfl
@[simp] theorem reference_fontCount : Config.reference.fontCount = 2 := rfl
@[simp] theorem reference_opw : Config.reference.opw = 16 := rfl
@[simp] theorem reference_outAPor : Config.reference.outAPor = 0 := rfl
@[simp] theorem reference_outRowsPor : Config.reference.outRowsPor = 0 := rfl
@[simp] theorem reference_outSelectPor : Config.reference.outSelectPor = 0 := rfl
@[simp] theorem reference_brightPolicy : Config.reference.brightPolicy = .clamp := rfl
@[simp] theorem reference_maskOperandInverted : Config.reference.maskOperandInverted = false := rfl

theorem reference_legal : Config.reference.Legal where
  unitCount_range := by decide
  slotCount_range := by decide
  tickHz_pos := by decide
  brightReset_range := by decide
  brightReset_five := by decide
  fcntReset_fixed := rfl
  fhiReset_fixed := rfl
  fontCount_fixed := rfl
  unique7sId_lt := Config.referenceUnique7sId.isLt
  opw_range := by decide
  outSelectPor_lt := by decide

theorem clamp_range (v : Int) {lo hi : Int} (h : lo ≤ hi) : lo ≤ clamp v lo hi ∧ clamp v lo hi ≤ hi := by
  unfold clamp
  split
  · omega
  · split <;> omega

theorem clamp_of_mem {v lo hi : Int} (h : lo ≤ v ∧ v ≤ hi) : clamp v lo hi = v := by
  unfold clamp
  split
  · omega
  · split <;> omega

/-- `FONTGET` reads the table at a known font id only (R109). -/
theorem fontOperand_lt {c : Config} (h : c.Legal) (a : Int) : fontOperand c a < c.fontCount := by
  have hf := h.fontCount_fixed
  have := clamp_range a (lo := 0) (hi := (c.fontCount : Int) - 1) (by omega)
  unfold fontOperand
  omega

/-- A byte made of an integer in the range of a byte is that integer. -/
theorem toNat_ofInt8 {v : Int} (h : 0 ≤ v ∧ v < 256) : ((BitVec.ofInt 8 v).toNat : Int) = v := by
  simp only [BitVec.toNat_ofInt]
  omega

theorem framesOperand_range (a : Int) : 1 ≤ framesOperand a ∧ framesOperand a ≤ 254 := clamp_range a (by decide)

theorem periodOperand_range (a b : Int) : framesOperand a < periodOperand a b ∧ periodOperand a b ≤ 255 := by
  have ha := framesOperand_range a
  have hb := framesOperand_range b
  unfold periodOperand
  omega

theorem framesOperand_toNat (a : Int) : ((BitVec.ofInt 8 (framesOperand a)).toNat : Int) = framesOperand a :=
  toNat_ofInt8 (by have := framesOperand_range a; omega)

theorem periodOperand_toNat (a b : Int) : ((BitVec.ofInt 8 (periodOperand a b)).toNat : Int) = periodOperand a b :=
  toNat_ofInt8 (by have := framesOperand_range a; have := periodOperand_range a b; omega)

end Sys2Proof.Machine
end

