-- ==== Sys2Proof/Laws/PerInstr.lean ====
section
/-! SUPPORT. For every operation: the fields of its word are its operation code and its operands, 0 where it has none
(R51, R55, R56 of `30_encoding.md`). -/

namespace Sys2Proof.Laws.EncodedFields

/-- The fields of the word of `i`. -/
def Statement (i : Instr) : Prop :=
  opField (encode i) = i.op ∧ aField (encode i) = fieldOf i.operandA ∧ bField (encode i) = fieldOf i.operandB

theorem tick : Statement .tick := ⟨opField_wordOf _ _ _, aField_wordOf _ _ _, bField_wordOf _ _ _⟩
theorem reset : Statement .reset := ⟨opField_wordOf _ _ _, aField_wordOf _ _ _, bField_wordOf _ _ _⟩
theorem setbright (a : Int) : Statement (.setbright a) := ⟨opField_wordOf _ _ _, aField_wordOf _ _ _, bField_wordOf _ _ _⟩
theorem getbright : Statement .getbright := ⟨opField_wordOf _ _ _, aField_wordOf _ _ _, bField_wordOf _ _ _⟩
theorem setblink (a : Int) : Statement (.setblink a) := ⟨opField_wordOf _ _ _, aField_wordOf _ _ _, bField_wordOf _ _ _⟩
theorem getblink : Statement .getblink := ⟨opField_wordOf _ _ _, aField_wordOf _ _ _, bField_wordOf _ _ _⟩
theorem sethilo (a b : Int) : Statement (.sethilo a b) := ⟨opField_wordOf _ _ _, aField_wordOf _ _ _, bField_wordOf _ _ _⟩
theorem gethi : Statement .gethi := ⟨opField_wordOf _ _ _, aField_wordOf _ _ _, bField_wordOf _ _ _⟩
theorem getlo : Statement .getlo := ⟨opField_wordOf _ _ _, aField_wordOf _ _ _, bField_wordOf _ _ _⟩
theorem setmask (a : Int) : Statement (.setmask a) := ⟨opField_wordOf _ _ _, aField_wordOf _ _ _, bField_wordOf _ _ _⟩
theorem getmask : Statement .getmask := ⟨opField_wordOf _ _ _, aField_wordOf _ _ _, bField_wordOf _ _ _⟩
theorem fbwr (a b : Int) : Statement (.fbwr a b) := ⟨opField_wordOf _ _ _, aField_wordOf _ _ _, bField_wordOf _ _ _⟩
theorem fbrd (a : Int) : Statement (.fbrd a) := ⟨opField_wordOf _ _ _, aField_wordOf _ _ _, bField_wordOf _ _ _⟩
theorem fontget (a b : Int) : Statement (.fontget a b) := ⟨opField_wordOf _ _ _, aField_wordOf _ _ _, bField_wordOf _ _ _⟩

end Sys2Proof.Laws.EncodedFields
end

