-- ==== Sys2Proof/Laws/State.lean ====
section
/-! SUPPORT. One lemma per field per update of State, true by `rfl`, so that no proof unfolds a record update. -/

namespace Sys2Proof.Machine

variable (s : State)

/-! `respond` -/

@[simp] theorem State.respond_slot (v : Byte) : (s.respond v).slot = s.slot := rfl
@[simp] theorem State.respond_unit (v : Byte) : (s.respond v).unit = s.unit := rfl
@[simp] theorem State.respond_frame (v : Byte) : (s.respond v).frame = s.frame := rfl
@[simp] theorem State.respond_bright (v : Byte) : (s.respond v).bright = s.bright := rfl
@[simp] theorem State.respond_bao (v : Byte) : (s.respond v).bao = s.bao := rfl
@[simp] theorem State.respond_fcnt (v : Byte) : (s.respond v).fcnt = s.fcnt := rfl
@[simp] theorem State.respond_fhi (v : Byte) : (s.respond v).fhi = s.fhi := rfl
@[simp] theorem State.respond_nbm (v : Byte) : (s.respond v).nbm = s.nbm := rfl
@[simp] theorem State.respond_fb (v : Byte) : (s.respond v).fb = s.fb := rfl
@[simp] theorem State.respond_outA (v : Byte) : (s.respond v).outA = s.outA := rfl
@[simp] theorem State.respond_outRows (v : Byte) : (s.respond v).outRows = s.outRows := rfl
@[simp] theorem State.respond_outSelect (v : Byte) : (s.respond v).outSelect = s.outSelect := rfl
@[simp] theorem State.respond_trace (v : Byte) : (s.respond v).trace = s.trace := rfl
@[simp] theorem State.respond_responses (v : Byte) : (s.respond v).responses = s.responses ++ [v] := rfl
@[simp] theorem State.respond_inputs (v : Byte) : (s.respond v).inputs = s.inputs := rfl

/-! `reservedWord` -/

@[simp] theorem State.reservedWord_slot : (s.reservedWord).slot = s.slot := rfl
@[simp] theorem State.reservedWord_unit : (s.reservedWord).unit = s.unit := rfl
@[simp] theorem State.reservedWord_frame : (s.reservedWord).frame = s.frame := rfl
@[simp] theorem State.reservedWord_bright : (s.reservedWord).bright = s.bright := rfl
@[simp] theorem State.reservedWord_bao : (s.reservedWord).bao = s.bao := rfl
@[simp] theorem State.reservedWord_fcnt : (s.reservedWord).fcnt = s.fcnt := rfl
@[simp] theorem State.reservedWord_fhi : (s.reservedWord).fhi = s.fhi := rfl
@[simp] theorem State.reservedWord_nbm : (s.reservedWord).nbm = s.nbm := rfl
@[simp] theorem State.reservedWord_fb : (s.reservedWord).fb = s.fb := rfl
@[simp] theorem State.reservedWord_outA : (s.reservedWord).outA = s.outA := rfl
@[simp] theorem State.reservedWord_outRows : (s.reservedWord).outRows = s.outRows := rfl
@[simp] theorem State.reservedWord_outSelect : (s.reservedWord).outSelect = s.outSelect := rfl
@[simp] theorem State.reservedWord_trace : (s.reservedWord).trace = s.trace := rfl
@[simp] theorem State.reservedWord_responses : (s.reservedWord).responses = s.responses ++ [0x00] := rfl
@[simp] theorem State.reservedWord_inputs : (s.reservedWord).inputs = s.inputs := rfl

/-! `writeFb` -/

@[simp] theorem State.writeFb_slot (i : Nat) (b : Byte) : (s.writeFb i b).slot = s.slot := rfl
@[simp] theorem State.writeFb_unit (i : Nat) (b : Byte) : (s.writeFb i b).unit = s.unit := rfl
@[simp] theorem State.writeFb_frame (i : Nat) (b : Byte) : (s.writeFb i b).frame = s.frame := rfl
@[simp] theorem State.writeFb_bright (i : Nat) (b : Byte) : (s.writeFb i b).bright = s.bright := rfl
@[simp] theorem State.writeFb_bao (i : Nat) (b : Byte) : (s.writeFb i b).bao = s.bao := rfl
@[simp] theorem State.writeFb_fcnt (i : Nat) (b : Byte) : (s.writeFb i b).fcnt = s.fcnt := rfl
@[simp] theorem State.writeFb_fhi (i : Nat) (b : Byte) : (s.writeFb i b).fhi = s.fhi := rfl
@[simp] theorem State.writeFb_nbm (i : Nat) (b : Byte) : (s.writeFb i b).nbm = s.nbm := rfl
@[simp] theorem State.writeFb_fb (i : Nat) (b : Byte) : (s.writeFb i b).fb = s.fb.write i b := rfl
@[simp] theorem State.writeFb_outA (i : Nat) (b : Byte) : (s.writeFb i b).outA = s.outA := rfl
@[simp] theorem State.writeFb_outRows (i : Nat) (b : Byte) : (s.writeFb i b).outRows = s.outRows := rfl
@[simp] theorem State.writeFb_outSelect (i : Nat) (b : Byte) : (s.writeFb i b).outSelect = s.outSelect := rfl
@[simp] theorem State.writeFb_trace (i : Nat) (b : Byte) : (s.writeFb i b).trace = s.trace := rfl
@[simp] theorem State.writeFb_responses (i : Nat) (b : Byte) : (s.writeFb i b).responses = s.responses := rfl
@[simp] theorem State.writeFb_inputs (i : Nat) (b : Byte) : (s.writeFb i b).inputs = s.inputs := rfl

/-! `writePortA` -/

@[simp] theorem State.writePortA_slot (r : BitVec 6) : (s.writePortA r).slot = s.slot := rfl
@[simp] theorem State.writePortA_unit (r : BitVec 6) : (s.writePortA r).unit = s.unit := rfl
@[simp] theorem State.writePortA_frame (r : BitVec 6) : (s.writePortA r).frame = s.frame := rfl
@[simp] theorem State.writePortA_bright (r : BitVec 6) : (s.writePortA r).bright = s.bright := rfl
@[simp] theorem State.writePortA_bao (r : BitVec 6) : (s.writePortA r).bao = s.bao := rfl
@[simp] theorem State.writePortA_fcnt (r : BitVec 6) : (s.writePortA r).fcnt = s.fcnt := rfl
@[simp] theorem State.writePortA_fhi (r : BitVec 6) : (s.writePortA r).fhi = s.fhi := rfl
@[simp] theorem State.writePortA_nbm (r : BitVec 6) : (s.writePortA r).nbm = s.nbm := rfl
@[simp] theorem State.writePortA_fb (r : BitVec 6) : (s.writePortA r).fb = s.fb := rfl
@[simp] theorem State.writePortA_outA (r : BitVec 6) : (s.writePortA r).outA = r := rfl
@[simp] theorem State.writePortA_outRows (r : BitVec 6) : (s.writePortA r).outRows = s.outRows := rfl
@[simp] theorem State.writePortA_outSelect (r : BitVec 6) : (s.writePortA r).outSelect = s.outSelect := rfl
@[simp] theorem State.writePortA_trace (r : BitVec 6) : (s.writePortA r).trace = s.trace ++ [.portA r] := rfl
@[simp] theorem State.writePortA_responses (r : BitVec 6) : (s.writePortA r).responses = s.responses := rfl
@[simp] theorem State.writePortA_inputs (r : BitVec 6) : (s.writePortA r).inputs = s.inputs := rfl

/-! `writePortB` -/

@[simp] theorem State.writePortB_slot (r : BitVec 2) (u : BitVec 4) : (s.writePortB r u).slot = s.slot := rfl
@[simp] theorem State.writePortB_unit (r : BitVec 2) (u : BitVec 4) : (s.writePortB r u).unit = s.unit := rfl
@[simp] theorem State.writePortB_frame (r : BitVec 2) (u : BitVec 4) : (s.writePortB r u).frame = s.frame := rfl
@[simp] theorem State.writePortB_bright (r : BitVec 2) (u : BitVec 4) : (s.writePortB r u).bright = s.bright := rfl
@[simp] theorem State.writePortB_bao (r : BitVec 2) (u : BitVec 4) : (s.writePortB r u).bao = s.bao := rfl
@[simp] theorem State.writePortB_fcnt (r : BitVec 2) (u : BitVec 4) : (s.writePortB r u).fcnt = s.fcnt := rfl
@[simp] theorem State.writePortB_fhi (r : BitVec 2) (u : BitVec 4) : (s.writePortB r u).fhi = s.fhi := rfl
@[simp] theorem State.writePortB_nbm (r : BitVec 2) (u : BitVec 4) : (s.writePortB r u).nbm = s.nbm := rfl
@[simp] theorem State.writePortB_fb (r : BitVec 2) (u : BitVec 4) : (s.writePortB r u).fb = s.fb := rfl
@[simp] theorem State.writePortB_outA (r : BitVec 2) (u : BitVec 4) : (s.writePortB r u).outA = s.outA := rfl
@[simp] theorem State.writePortB_outRows (r : BitVec 2) (u : BitVec 4) : (s.writePortB r u).outRows = r := rfl
@[simp] theorem State.writePortB_outSelect (r : BitVec 2) (u : BitVec 4) : (s.writePortB r u).outSelect = u := rfl
@[simp] theorem State.writePortB_trace (r : BitVec 2) (u : BitVec 4) : (s.writePortB r u).trace = s.trace ++ [.portB r u] := rfl
@[simp] theorem State.writePortB_responses (r : BitVec 2) (u : BitVec 4) : (s.writePortB r u).responses = s.responses := rfl
@[simp] theorem State.writePortB_inputs (r : BitVec 2) (u : BitVec 4) : (s.writePortB r u).inputs = s.inputs := rfl

/-! `advanceSlot` -/

@[simp] theorem State.advanceSlot_slot : (s.advanceSlot).slot = s.slot + 1 := rfl
@[simp] theorem State.advanceSlot_unit : (s.advanceSlot).unit = s.unit := rfl
@[simp] theorem State.advanceSlot_frame : (s.advanceSlot).frame = s.frame := rfl
@[simp] theorem State.advanceSlot_bright : (s.advanceSlot).bright = s.bright := rfl
@[simp] theorem State.advanceSlot_bao : (s.advanceSlot).bao = s.bao := rfl
@[simp] theorem State.advanceSlot_fcnt : (s.advanceSlot).fcnt = s.fcnt := rfl
@[simp] theorem State.advanceSlot_fhi : (s.advanceSlot).fhi = s.fhi := rfl
@[simp] theorem State.advanceSlot_nbm : (s.advanceSlot).nbm = s.nbm := rfl
@[simp] theorem State.advanceSlot_fb : (s.advanceSlot).fb = s.fb := rfl
@[simp] theorem State.advanceSlot_outA : (s.advanceSlot).outA = s.outA := rfl
@[simp] theorem State.advanceSlot_outRows : (s.advanceSlot).outRows = s.outRows := rfl
@[simp] theorem State.advanceSlot_outSelect : (s.advanceSlot).outSelect = s.outSelect := rfl
@[simp] theorem State.advanceSlot_trace : (s.advanceSlot).trace = s.trace := rfl
@[simp] theorem State.advanceSlot_responses : (s.advanceSlot).responses = s.responses := rfl
@[simp] theorem State.advanceSlot_inputs : (s.advanceSlot).inputs = s.inputs := rfl

/-! `preset` -/

@[simp] theorem State.preset_slot (c : Config) : (s.preset c).slot = BitVec.ofNat 8 (c.slotCount - 1) := rfl
@[simp] theorem State.preset_unit (c : Config) : (s.preset c).unit = BitVec.ofNat 8 (c.unitCount - 1) := rfl
@[simp] theorem State.preset_frame (c : Config) : (s.preset c).frame = BitVec.ofNat 8 (c.fcntReset - 1) := rfl
@[simp] theorem State.preset_bright (c : Config) : (s.preset c).bright = BitVec.ofNat 8 c.brightReset := rfl
@[simp] theorem State.preset_bao (c : Config) : (s.preset c).bao = true := rfl
@[simp] theorem State.preset_fcnt (c : Config) : (s.preset c).fcnt = BitVec.ofNat 8 c.fcntReset := rfl
@[simp] theorem State.preset_fhi (c : Config) : (s.preset c).fhi = BitVec.ofNat 8 c.fhiReset := rfl
@[simp] theorem State.preset_nbm (c : Config) : (s.preset c).nbm = 0 := rfl
@[simp] theorem State.preset_fb (c : Config) : (s.preset c).fb = [] := rfl
@[simp] theorem State.preset_outA (c : Config) : (s.preset c).outA = s.outA := rfl
@[simp] theorem State.preset_outRows (c : Config) : (s.preset c).outRows = s.outRows := rfl
@[simp] theorem State.preset_outSelect (c : Config) : (s.preset c).outSelect = s.outSelect := rfl
@[simp] theorem State.preset_trace (c : Config) : (s.preset c).trace = s.trace := rfl
@[simp] theorem State.preset_responses (c : Config) : (s.preset c).responses = s.responses := rfl
@[simp] theorem State.preset_inputs (c : Config) : (s.preset c).inputs = s.inputs := rfl

/-! `powerOn` -/

@[simp] theorem State.powerOn_slot (c : Config) : (s.powerOn c).slot = BitVec.ofNat 8 (c.slotCount - 1) := rfl
@[simp] theorem State.powerOn_unit (c : Config) : (s.powerOn c).unit = BitVec.ofNat 8 (c.unitCount - 1) := rfl
@[simp] theorem State.powerOn_frame (c : Config) : (s.powerOn c).frame = BitVec.ofNat 8 (c.fcntReset - 1) := rfl
@[simp] theorem State.powerOn_bright (c : Config) : (s.powerOn c).bright = BitVec.ofNat 8 c.brightReset := rfl
@[simp] theorem State.powerOn_bao (c : Config) : (s.powerOn c).bao = true := rfl
@[simp] theorem State.powerOn_fcnt (c : Config) : (s.powerOn c).fcnt = BitVec.ofNat 8 c.fcntReset := rfl
@[simp] theorem State.powerOn_fhi (c : Config) : (s.powerOn c).fhi = BitVec.ofNat 8 c.fhiReset := rfl
@[simp] theorem State.powerOn_nbm (c : Config) : (s.powerOn c).nbm = 0 := rfl
@[simp] theorem State.powerOn_fb (c : Config) : (s.powerOn c).fb = [] := rfl
@[simp] theorem State.powerOn_outA (c : Config) : (s.powerOn c).outA = c.outAPor := rfl
@[simp] theorem State.powerOn_outRows (c : Config) : (s.powerOn c).outRows = c.outRowsPor := rfl
@[simp] theorem State.powerOn_outSelect (c : Config) : (s.powerOn c).outSelect = c.outSelectPor := rfl
@[simp] theorem State.powerOn_trace (c : Config) : (s.powerOn c).trace = [] := rfl
@[simp] theorem State.powerOn_responses (c : Config) : (s.powerOn c).responses = [] := rfl
@[simp] theorem State.powerOn_inputs (c : Config) : (s.powerOn c).inputs = s.inputs := rfl

/-! `resetAll` -/

@[simp] theorem State.resetAll_slot (c : Config) : (s.resetAll c).slot = BitVec.ofNat 8 (c.slotCount - 1) := rfl
@[simp] theorem State.resetAll_unit (c : Config) : (s.resetAll c).unit = BitVec.ofNat 8 (c.unitCount - 1) := rfl
@[simp] theorem State.resetAll_frame (c : Config) : (s.resetAll c).frame = BitVec.ofNat 8 (c.fcntReset - 1) := rfl
@[simp] theorem State.resetAll_bright (c : Config) : (s.resetAll c).bright = BitVec.ofNat 8 c.brightReset := rfl
@[simp] theorem State.resetAll_bao (c : Config) : (s.resetAll c).bao = true := rfl
@[simp] theorem State.resetAll_fcnt (c : Config) : (s.resetAll c).fcnt = BitVec.ofNat 8 c.fcntReset := rfl
@[simp] theorem State.resetAll_fhi (c : Config) : (s.resetAll c).fhi = BitVec.ofNat 8 c.fhiReset := rfl
@[simp] theorem State.resetAll_nbm (c : Config) : (s.resetAll c).nbm = 0 := rfl
@[simp] theorem State.resetAll_fb (c : Config) : (s.resetAll c).fb = [] := rfl
@[simp] theorem State.resetAll_outA (c : Config) : (s.resetAll c).outA = s.outA := rfl
@[simp] theorem State.resetAll_outRows (c : Config) : (s.resetAll c).outRows = s.outRows := rfl
@[simp] theorem State.resetAll_outSelect (c : Config) : (s.resetAll c).outSelect = s.outSelect := rfl
@[simp] theorem State.resetAll_trace (c : Config) : (s.resetAll c).trace = s.trace := rfl
@[simp] theorem State.resetAll_responses (c : Config) : (s.resetAll c).responses = s.responses ++ [0x00] := rfl
@[simp] theorem State.resetAll_inputs (c : Config) : (s.resetAll c).inputs = s.inputs := rfl

/-! `setBright` -/

@[simp] theorem State.setBright_slot (c : Config) (a : Int) : (s.setBright c a).slot = s.slot := rfl
@[simp] theorem State.setBright_unit (c : Config) (a : Int) : (s.setBright c a).unit = s.unit := rfl
@[simp] theorem State.setBright_frame (c : Config) (a : Int) : (s.setBright c a).frame = s.frame := rfl
@[simp] theorem State.setBright_bright (c : Config) (a : Int) : (s.setBright c a).bright = dutyOperand c s.bright a := rfl
@[simp] theorem State.setBright_bao (c : Config) (a : Int) : (s.setBright c a).bao = s.bao := rfl
@[simp] theorem State.setBright_fcnt (c : Config) (a : Int) : (s.setBright c a).fcnt = s.fcnt := rfl
@[simp] theorem State.setBright_fhi (c : Config) (a : Int) : (s.setBright c a).fhi = s.fhi := rfl
@[simp] theorem State.setBright_nbm (c : Config) (a : Int) : (s.setBright c a).nbm = s.nbm := rfl
@[simp] theorem State.setBright_fb (c : Config) (a : Int) : (s.setBright c a).fb = s.fb := rfl
@[simp] theorem State.setBright_outA (c : Config) (a : Int) : (s.setBright c a).outA = s.outA := rfl
@[simp] theorem State.setBright_outRows (c : Config) (a : Int) : (s.setBright c a).outRows = s.outRows := rfl
@[simp] theorem State.setBright_outSelect (c : Config) (a : Int) : (s.setBright c a).outSelect = s.outSelect := rfl
@[simp] theorem State.setBright_trace (c : Config) (a : Int) : (s.setBright c a).trace = s.trace := rfl
@[simp] theorem State.setBright_responses (c : Config) (a : Int) : (s.setBright c a).responses = s.responses ++ [0x00] := rfl
@[simp] theorem State.setBright_inputs (c : Config) (a : Int) : (s.setBright c a).inputs = s.inputs := rfl

/-! `setBlink` -/

@[simp] theorem State.setBlink_slot (a : Int) : (s.setBlink a).slot = s.slot := rfl
@[simp] theorem State.setBlink_unit (a : Int) : (s.setBlink a).unit = s.unit := rfl
@[simp] theorem State.setBlink_frame (a : Int) : (s.setBlink a).frame = s.frame := rfl
@[simp] theorem State.setBlink_bright (a : Int) : (s.setBlink a).bright = s.bright := rfl
@[simp] theorem State.setBlink_bao (a : Int) : (s.setBlink a).bao = !boolOperand a := rfl
@[simp] theorem State.setBlink_fcnt (a : Int) : (s.setBlink a).fcnt = s.fcnt := rfl
@[simp] theorem State.setBlink_fhi (a : Int) : (s.setBlink a).fhi = s.fhi := rfl
@[simp] theorem State.setBlink_nbm (a : Int) : (s.setBlink a).nbm = s.nbm := rfl
@[simp] theorem State.setBlink_fb (a : Int) : (s.setBlink a).fb = s.fb := rfl
@[simp] theorem State.setBlink_outA (a : Int) : (s.setBlink a).outA = s.outA := rfl
@[simp] theorem State.setBlink_outRows (a : Int) : (s.setBlink a).outRows = s.outRows := rfl
@[simp] theorem State.setBlink_outSelect (a : Int) : (s.setBlink a).outSelect = s.outSelect := rfl
@[simp] theorem State.setBlink_trace (a : Int) : (s.setBlink a).trace = s.trace := rfl
@[simp] theorem State.setBlink_responses (a : Int) : (s.setBlink a).responses = s.responses ++ [0x00] := rfl
@[simp] theorem State.setBlink_inputs (a : Int) : (s.setBlink a).inputs = s.inputs := rfl

/-! `setHiLo` -/

@[simp] theorem State.setHiLo_slot (a b : Int) : (s.setHiLo a b).slot = s.slot := rfl
@[simp] theorem State.setHiLo_unit (a b : Int) : (s.setHiLo a b).unit = s.unit := rfl
@[simp] theorem State.setHiLo_frame (a b : Int) : (s.setHiLo a b).frame = s.frame := rfl
@[simp] theorem State.setHiLo_bright (a b : Int) : (s.setHiLo a b).bright = s.bright := rfl
@[simp] theorem State.setHiLo_bao (a b : Int) : (s.setHiLo a b).bao = s.bao := rfl
@[simp] theorem State.setHiLo_fcnt (a b : Int) : (s.setHiLo a b).fcnt = BitVec.ofInt 8 (periodOperand a b) := rfl
@[simp] theorem State.setHiLo_fhi (a b : Int) : (s.setHiLo a b).fhi = BitVec.ofInt 8 (framesOperand a) := rfl
@[simp] theorem State.setHiLo_nbm (a b : Int) : (s.setHiLo a b).nbm = s.nbm := rfl
@[simp] theorem State.setHiLo_fb (a b : Int) : (s.setHiLo a b).fb = s.fb := rfl
@[simp] theorem State.setHiLo_outA (a b : Int) : (s.setHiLo a b).outA = s.outA := rfl
@[simp] theorem State.setHiLo_outRows (a b : Int) : (s.setHiLo a b).outRows = s.outRows := rfl
@[simp] theorem State.setHiLo_outSelect (a b : Int) : (s.setHiLo a b).outSelect = s.outSelect := rfl
@[simp] theorem State.setHiLo_trace (a b : Int) : (s.setHiLo a b).trace = s.trace := rfl
@[simp] theorem State.setHiLo_responses (a b : Int) : (s.setHiLo a b).responses = s.responses ++ [0x00] := rfl
@[simp] theorem State.setHiLo_inputs (a b : Int) : (s.setHiLo a b).inputs = s.inputs := rfl

/-! `setMask` -/

@[simp] theorem State.setMask_slot (c : Config) (a : Int) : (s.setMask c a).slot = s.slot := rfl
@[simp] theorem State.setMask_unit (c : Config) (a : Int) : (s.setMask c a).unit = s.unit := rfl
@[simp] theorem State.setMask_frame (c : Config) (a : Int) : (s.setMask c a).frame = s.frame := rfl
@[simp] theorem State.setMask_bright (c : Config) (a : Int) : (s.setMask c a).bright = s.bright := rfl
@[simp] theorem State.setMask_bao (c : Config) (a : Int) : (s.setMask c a).bao = s.bao := rfl
@[simp] theorem State.setMask_fcnt (c : Config) (a : Int) : (s.setMask c a).fcnt = s.fcnt := rfl
@[simp] theorem State.setMask_fhi (c : Config) (a : Int) : (s.setMask c a).fhi = s.fhi := rfl
@[simp] theorem State.setMask_nbm (c : Config) (a : Int) : (s.setMask c a).nbm = maskOperand c a := rfl
@[simp] theorem State.setMask_fb (c : Config) (a : Int) : (s.setMask c a).fb = s.fb := rfl
@[simp] theorem State.setMask_outA (c : Config) (a : Int) : (s.setMask c a).outA = s.outA := rfl
@[simp] theorem State.setMask_outRows (c : Config) (a : Int) : (s.setMask c a).outRows = s.outRows := rfl
@[simp] theorem State.setMask_outSelect (c : Config) (a : Int) : (s.setMask c a).outSelect = s.outSelect := rfl
@[simp] theorem State.setMask_trace (c : Config) (a : Int) : (s.setMask c a).trace = s.trace := rfl
@[simp] theorem State.setMask_responses (c : Config) (a : Int) : (s.setMask c a).responses = s.responses ++ [0x00] := rfl
@[simp] theorem State.setMask_inputs (c : Config) (a : Int) : (s.setMask c a).inputs = s.inputs := rfl

/-! `present` -/

@[simp] theorem State.present_slot (e : Input) : (s.present e).slot = s.slot := rfl
@[simp] theorem State.present_unit (e : Input) : (s.present e).unit = s.unit := rfl
@[simp] theorem State.present_frame (e : Input) : (s.present e).frame = s.frame := rfl
@[simp] theorem State.present_bright (e : Input) : (s.present e).bright = s.bright := rfl
@[simp] theorem State.present_bao (e : Input) : (s.present e).bao = s.bao := rfl
@[simp] theorem State.present_fcnt (e : Input) : (s.present e).fcnt = s.fcnt := rfl
@[simp] theorem State.present_fhi (e : Input) : (s.present e).fhi = s.fhi := rfl
@[simp] theorem State.present_nbm (e : Input) : (s.present e).nbm = s.nbm := rfl
@[simp] theorem State.present_fb (e : Input) : (s.present e).fb = s.fb := rfl
@[simp] theorem State.present_outA (e : Input) : (s.present e).outA = s.outA := rfl
@[simp] theorem State.present_outRows (e : Input) : (s.present e).outRows = s.outRows := rfl
@[simp] theorem State.present_outSelect (e : Input) : (s.present e).outSelect = s.outSelect := rfl
@[simp] theorem State.present_trace (e : Input) : (s.present e).trace = s.trace := rfl
@[simp] theorem State.present_responses (e : Input) : (s.present e).responses = s.responses := rfl
@[simp] theorem State.present_inputs (e : Input) : (s.present e).inputs = e :: s.inputs := rfl

/-! The composites over the ports, each as the writes it makes -/

@[simp] theorem State.makeDark_slot : s.makeDark.slot = s.slot := rfl
@[simp] theorem State.makeDark_unit : s.makeDark.unit = s.unit := rfl
@[simp] theorem State.makeDark_frame : s.makeDark.frame = s.frame := rfl
@[simp] theorem State.makeDark_bright : s.makeDark.bright = s.bright := rfl
@[simp] theorem State.makeDark_bao : s.makeDark.bao = s.bao := rfl
@[simp] theorem State.makeDark_fcnt : s.makeDark.fcnt = s.fcnt := rfl
@[simp] theorem State.makeDark_fhi : s.makeDark.fhi = s.fhi := rfl
@[simp] theorem State.makeDark_nbm : s.makeDark.nbm = s.nbm := rfl
@[simp] theorem State.makeDark_fb : s.makeDark.fb = s.fb := rfl
@[simp] theorem State.makeDark_outA : s.makeDark.outA = 0 := rfl
@[simp] theorem State.makeDark_outRows : s.makeDark.outRows = 0 := rfl
@[simp] theorem State.makeDark_outSelect : s.makeDark.outSelect = 0 := rfl
@[simp] theorem State.makeDark_trace : s.makeDark.trace = s.trace ++ [.portB 0 0, .portA 0] := by simp [State.makeDark]
@[simp] theorem State.makeDark_responses : s.makeDark.responses = s.responses := rfl
@[simp] theorem State.makeDark_inputs : s.makeDark.inputs = s.inputs := rfl

@[simp] theorem State.light_slot : s.light.slot = s.slot := rfl
@[simp] theorem State.light_unit : s.light.unit = s.unit := rfl
@[simp] theorem State.light_frame : s.light.frame = s.frame := rfl
@[simp] theorem State.light_bright : s.light.bright = s.bright := rfl
@[simp] theorem State.light_bao : s.light.bao = s.bao := rfl
@[simp] theorem State.light_fcnt : s.light.fcnt = s.fcnt := rfl
@[simp] theorem State.light_fhi : s.light.fhi = s.fhi := rfl
@[simp] theorem State.light_nbm : s.light.nbm = s.nbm := rfl
@[simp] theorem State.light_fb : s.light.fb = s.fb := rfl
@[simp] theorem State.light_outA : s.light.outA = rowsA (s.fb.read s.unit.toNat) := rfl
@[simp] theorem State.light_outRows : s.light.outRows = rowsB (s.fb.read s.unit.toNat) := rfl
@[simp] theorem State.light_outSelect : s.light.outSelect = onehot s.unit.toNat := rfl
@[simp] theorem State.light_trace : s.light.trace = s.trace ++
    [.portA (rowsA (s.fb.read s.unit.toNat)), .portB (rowsB (s.fb.read s.unit.toNat)) (onehot s.unit.toNat)] := by
  simp [State.light]
@[simp] theorem State.light_responses : s.light.responses = s.responses := rfl
@[simp] theorem State.light_inputs : s.light.inputs = s.inputs := rfl

/-! The operations that only answer -/

@[simp] theorem State.getBright_eq : s.getBright = s.respond s.bright := rfl
@[simp] theorem State.getBlink_eq : s.getBlink = s.respond (boolResponse (!s.bao)) := rfl
@[simp] theorem State.getHi_eq : s.getHi = s.respond s.fhi := rfl
@[simp] theorem State.getLo_eq : s.getLo = s.respond (s.fcnt - s.fhi) := rfl
@[simp] theorem State.getMask_eq (c : Config) : s.getMask c = s.respond (maskResponse c s.nbm) := rfl
@[simp] theorem State.fontGet_eq (c : Config) (a b : Int) : s.fontGet c a b = s.respond (fontPattern c a b) := rfl

/-! The pins -/

@[simp] theorem State.pins_outA : s.pins.outA = s.outA := rfl
@[simp] theorem State.pins_outRows : s.pins.outRows = s.outRows := rfl
@[simp] theorem State.pins_outSelect : s.pins.outSelect = s.outSelect := rfl
@[simp] theorem State.makeDark_pins : s.makeDark.pins = Pins.cleared := rfl
@[simp] theorem State.light_pins : s.light.pins = Pins.showing (s.fb.read s.unit.toNat) s.unit.toNat := rfl

end Sys2Proof.Machine
end

