-- ==== Sys2Proof/Laws/Tick.lean ====
section
/-! SUPPORT. What a `TICK` can do (R81 of `40_tick.md`): its steps field by field, and the cases of the whole. -/

namespace Sys2Proof.Machine

variable (s : State)

/-! ## Step 2 -/

theorem State.dutyClear_cases :
    (s.dimmed = true ∧ s.dutyClear = s.makeDark) ∨ (s.dimmed = false ∧ s.dutyClear = s) := by
  unfold State.dutyClear
  cases s.dimmed <;> simp

/-- Step 2 writes the ports only. -/
theorem State.dutyClear_frame : s.dutyClear.slot = s.slot ∧ s.dutyClear.unit = s.unit ∧ s.dutyClear.frame = s.frame ∧
    s.dutyClear.bright = s.bright ∧ s.dutyClear.bao = s.bao ∧ s.dutyClear.fcnt = s.fcnt ∧ s.dutyClear.fhi = s.fhi ∧
    s.dutyClear.nbm = s.nbm ∧ s.dutyClear.fb = s.fb ∧ s.dutyClear.responses = s.responses ∧
    s.dutyClear.inputs = s.inputs := by
  rcases s.dutyClear_cases with ⟨-, h⟩ | ⟨-, h⟩ <;> rw [h] <;> simp

/-! ## Step 3: the counters -/

/-- The frame counter after a frame rollover (R71). -/
def nextFrame (fcnt frame : Byte) : Byte := if fcnt.toNat ≤ (frame + 1).toNat then 0 else frame + 1

/-- The unit counter after a unit rollover (R71). -/
def nextUnit (c : Config) (unit : Byte) : Byte := if c.unitCount ≤ (unit + 1).toNat then 0 else unit + 1

theorem State.advanceFrame_eq : s.advanceFrame = { s with frame := nextFrame s.fcnt s.frame } := by
  unfold State.advanceFrame nextFrame State.frameWraps
  simp only [decide_eq_true_eq]
  split <;> rfl

theorem State.advanceUnit_eq (c : Config) : s.advanceUnit c =
    { s with slot := 0
             unit := nextUnit c s.unit
             frame := if c.unitCount ≤ (s.unit + 1).toNat then nextFrame s.fcnt s.frame else s.frame } := by
  unfold State.advanceUnit nextUnit State.frameRolls
  simp only [decide_eq_true_eq, State.advanceFrame_eq]
  split <;> rfl

/-- The unit rolled onto is one of the display's. -/
theorem nextUnit_lt {c : Config} (h : 1 ≤ c.unitCount) (unit : Byte) : (nextUnit c unit).toNat < c.unitCount := by
  unfold nextUnit
  split
  · exact h
  · omega

/-! ## The whole -/

/-- Whether the next tick is a unit rollover, read off the slot counter. -/
theorem State.unitRolls_advanced (c : Config) :
    s.advanceSlot.dutyClear.unitRolls c = decide (c.slotCount ≤ (s.slot + 1).toNat) := by
  unfold State.unitRolls
  rw [s.advanceSlot.dutyClear_frame.1]
  rfl

theorem State.dutyClear_dim {s : State} (h : s.bright.toNat ≤ (s.slot + 1).toNat) :
    s.advanceSlot.dutyClear = s.advanceSlot.makeDark := if_pos (decide_eq_true h)

theorem State.dutyClear_bright {s : State} (h : (s.slot + 1).toNat < s.bright.toNat) :
    s.advanceSlot.dutyClear = s.advanceSlot :=
  if_neg (by rw [State.dimmed, decide_eq_true_eq]; exact Nat.not_le.2 h)

/-- A tick that is not a unit rollover. -/
theorem State.tick_between {c : Config} {s : State} (h : ¬ c.slotCount ≤ (s.slot + 1).toNat) :
    s.tick c = s.advanceSlot.dutyClear :=
  if_neg (by rw [s.unitRolls_advanced, decide_eq_true_eq]; exact h)

/-- A tick that is a unit rollover. -/
theorem State.tick_rollover {c : Config} {s : State} (h : c.slotCount ≤ (s.slot + 1).toNat) :
    s.tick c = (s.advanceSlot.dutyClear.advanceUnit c).lightIfVisible :=
  if_pos (by rw [s.unitRolls_advanced, decide_eq_true_eq]; exact h)

theorem State.lightIfVisible_cases :
    (s.visible = true ∧ s.lightIfVisible = s.light) ∨ (s.visible = false ∧ s.lightIfVisible = s) := by
  unfold State.lightIfVisible
  cases s.visible <;> simp

/-- A state dark at the start of the next unit's dwell: where a unit rollover stands before it lights the unit. -/
def State.rolledDark (c : Config) (s : State) : State :=
  { s with
    slot := 0
    unit := nextUnit c s.unit
    frame := if c.unitCount ≤ (s.unit + 1).toNat then nextFrame s.fcnt s.frame else s.frame
    outA := 0, outRows := 0, outSelect := 0
    trace := s.trace ++ [.portB 0 0, .portA 0] }

/-- A unit rollover in a state whose brightness is in range: dark first, then lit if visible (R70 point 1, R73). -/
theorem State.tick_rollover_dark {c : Config} {s : State} (h : c.slotCount ≤ (s.slot + 1).toNat)
    (hb : s.bright.toNat ≤ c.slotCount) : s.tick c = (s.rolledDark c).lightIfVisible := by
  rw [State.tick_rollover h, State.dutyClear_dim (Nat.le_trans hb h), State.advanceUnit_eq]
  congr 1
  simp [State.rolledDark, State.makeDark, State.writePortA, State.writePortB, State.advanceSlot]

/-- What a tick never writes: the settings, the frame buffer, the responses, the events to come. -/
theorem State.tick_frame (c : Config) : (s.tick c).bright = s.bright ∧ (s.tick c).bao = s.bao ∧
    (s.tick c).fcnt = s.fcnt ∧ (s.tick c).fhi = s.fhi ∧ (s.tick c).nbm = s.nbm ∧ (s.tick c).fb = s.fb ∧
    (s.tick c).responses = s.responses ∧ (s.tick c).inputs = s.inputs := by
  have hf := s.advanceSlot.dutyClear_frame
  by_cases h : c.slotCount ≤ (s.slot + 1).toNat
  · rw [State.tick_rollover h]
    rcases State.lightIfVisible_cases (s.advanceSlot.dutyClear.advanceUnit c) with ⟨-, e⟩ | ⟨-, e⟩ <;> rw [e] <;>
      simp [State.advanceUnit_eq, hf]
  · rw [State.tick_between h]
    simp [hf]

/-! ## What a tick does not read -/

theorem State.dutyClear_with (rs : List Byte) (es : List Input) :
    ({ s with responses := rs, inputs := es } : State).advanceSlot.dutyClear =
      { s.advanceSlot.dutyClear with responses := rs, inputs := es } := by
  by_cases h : s.bright.toNat ≤ (s.slot + 1).toNat
  · rw [State.dutyClear_dim h, State.dutyClear_dim (s := { s with responses := rs, inputs := es }) h]
    rfl
  · have h := Nat.not_le.1 h
    rw [State.dutyClear_bright h, State.dutyClear_bright (s := { s with responses := rs, inputs := es }) h]
    rfl

theorem State.lightIfVisible_with (rs : List Byte) (es : List Input) :
    ({ s with responses := rs, inputs := es } : State).lightIfVisible =
      { s.lightIfVisible with responses := rs, inputs := es } := by
  have h : ({ s with responses := rs, inputs := es } : State).visible = s.visible := rfl
  unfold State.lightIfVisible
  rw [h]
  split <;> rfl

/-- A tick does not depend on the responses given or the events to come. -/
theorem State.tick_with (c : Config) (rs : List Byte) (es : List Input) :
    ({ s with responses := rs, inputs := es } : State).tick c = { s.tick c with responses := rs, inputs := es } := by
  by_cases h : c.slotCount ≤ (s.slot + 1).toNat
  · rw [State.tick_rollover h, State.tick_rollover (s := { s with responses := rs, inputs := es }) h,
      State.dutyClear_with, ← State.lightIfVisible_with, State.advanceUnit_eq, State.advanceUnit_eq]
  · rw [State.tick_between h, State.tick_between (s := { s with responses := rs, inputs := es }) h,
      State.dutyClear_with]

end Sys2Proof.Machine
end

