-- ==== Sys2Proof/Laws/Step.lean ====
section
/-! SUPPORT. `exec` is `State.perform` of the reference system, so every operation completes; `step` by the event
presented. -/

namespace Sys2Proof.Machine

theorem exec_eq_perform (i : Instr) (s : State) : exec i s = .next (s.perform Config.reference i) := by
  cases i <;> rfl

theorem step_idle {s : State} (h : s.inputs = []) : step s = .next s := by
  simp [step, State.nextInput, h, State.idle]

theorem step_strobe {s : State} {rest : List Input} (h : s.inputs = .strobe :: rest) :
    step s = exec .tick { s with inputs := rest } := by
  simp [step, State.nextInput, h]

theorem step_powerOn {s : State} {rest : List Input} (h : s.inputs = .powerOn :: rest) :
    step s = .next (State.powerOn Config.reference { s with inputs := rest }) := by
  simp [step, State.nextInput, h]

theorem step_instr {s : State} {w : CommandWord} {i : Instr} {rest : List Input} (h : s.inputs = .command w :: rest)
    (hd : decodeCommand w = .instr i) : step s = exec i { s with inputs := rest } := by
  simp [step, State.nextInput, h, hd]

theorem step_rejected {s : State} {w : CommandWord} {why : Rejection} {rest : List Input}
    (h : s.inputs = .command w :: rest) (hd : decodeCommand w = .rejected why) :
    step s = .next (State.reservedWord { s with inputs := rest }) := by
  simp [step, State.nextInput, h, hd]

/-- A step either finds no event and leaves the state, or takes the first event. -/
theorem step_next (s : State) : ∃ t, step s = .next t := by
  rcases h : s.inputs with _ | ⟨e, rest⟩
  · exact ⟨s, step_idle h⟩
  · cases e with
    | strobe => exact ⟨_, (step_strobe h).trans (exec_eq_perform _ _)⟩
    | powerOn => exact ⟨_, step_powerOn h⟩
    | command w =>
      cases hd : decodeCommand w with
      | instr i => exact ⟨_, (step_instr h hd).trans (exec_eq_perform _ _)⟩
      | rejected _ => exact ⟨_, step_rejected h hd⟩

/-! ## Runs -/

/-- One more step of a run, for any machine of the host's form. -/
theorem run_succ_of (M : Host.Core) (n : Nat) (s t : M.State) (h : M.step s = .next t) : M.run (n + 1) s = M.run n t := by
  rw [Host.Core.run, h]

/-- One more step of a run. -/
theorem run_succ {s t : State} (n : Nat) (h : step s = .next t) : core.run (n + 1) s = core.run n t :=
  run_succ_of core n s t h

theorem execAll_cons (i : Instr) (is : List Instr) (s : State) :
    execAll (i :: is) s = execAll is (s.perform Config.reference i) := by
  rw [execAll, exec_eq_perform]

theorem execAll_append (is js : List Instr) (s : State) :
    ∃ t, execAll is s = .next t ∧ execAll (is ++ js) s = execAll js t := by
  induction is generalizing s with
  | nil => exact ⟨s, rfl, rfl⟩
  | cons i is ih => simpa only [List.cons_append, execAll_cons] using ih (s.perform Config.reference i)

theorem State.ticks_succ (c : Config) (n : Nat) (s : State) : s.ticks c (n + 1) = (s.ticks c n).tick c := by
  induction n generalizing s with
  | zero => rfl
  | succ n ih =>
    rw [State.ticks, ih]
    rfl

/-- No operation reads or writes the events to come. -/
theorem State.perform_with_inputs (c : Config) (i : Instr) (s : State) (es : List Input) :
    ({ s with inputs := es } : State).perform c i = { s.perform c i with inputs := es } := by
  cases i with
  | tick => exact (s.tick_with c s.responses es).trans (by rw [← (s.tick_frame c).2.2.2.2.2.2.1]; rfl)
  | fbwr a b =>
    simp only [State.perform, State.fbWrite]
    split <;> rfl
  | _ => rfl

theorem State.perform_inputs (c : Config) (i : Instr) (s : State) : (s.perform c i).inputs = s.inputs := by
  cases i with
  | tick => exact (s.tick_frame c).2.2.2.2.2.2.2
  | fbwr a b =>
    simp only [State.perform, State.fbWrite]
    split <;> rfl
  | _ => rfl

end Sys2Proof.Machine
end

