-- ==== Sys2Proof/Tests/Slice0.lean ====
section
/-! SUPPORT. The model's own tests. Expected values come from `spec/95_test_vectors.md` and from the worked encodings of
`30_encoding.md` R66, named beside each test; and for every statement with hypotheses, states and operands that meet
them. -/

namespace Sys2Proof.Tests

open Sys2Proof.Machine Sys2Proof.Safety Sys2Proof.Certificates

/-! ## Helpers -/

/-- The state a step reaches. -/
def reached : Host.Outcome State Fault Refusal → Option State
  | .next t => some t
  | .fault _ => none
  | .refused _ => none

/-- `S=(SLOT,UNIT,FRAME)` of R62. -/
def showS (s : State) : Byte × Byte × Byte := (s.slot, s.unit, s.frame)

/-- `C=(BRIGHT,BAO,FHI,FCNT,NBM)` of R62. -/
def showC (s : State) : Byte × Bool × Byte × Byte × Byte := (s.bright, s.bao, s.fhi, s.fcnt, s.nbm)

/-- `OUT=(OUTA,OUTB)` of R62, `OUTA` as its six bits. -/
def showOut (s : State) : BitVec 6 × Byte := (s.outA, s.pins.busB)

/-- `FB=[b0,b1,b2,b3]` of R62. -/
def showFb (s : State) : List Byte := [s.fb.read 0, s.fb.read 1, s.fb.read 2, s.fb.read 3]

/-- The reset state with the given `S`. -/
def atS (slot unit frame : Byte) : State := { State.reset with slot := slot, unit := unit, frame := frame }

/-- V-40-7: `C=(4,0,4,10,0000) FB=[FF,FF,FF,FF] OUT=(00,00)`. -/
def blinking (slot unit frame : Byte) : State :=
  { atS slot unit frame with
    bao := false, fhi := 4, fcnt := 10, fb := [(0, 0xFF), (1, 0xFF), (2, 0xFF), (3, 0xFF)] }

/-- V-40-6: `S=(1,2,7) C=(4,0,25,50,0000) FB=[11,22,33,44] OUT=(0C,D0)`, with the trace that leads to these ports. -/
def midDwell : State :=
  { atS 1 2 7 with
    bao := false, fb := [(0, 0x11), (1, 0x22), (2, 0x33), (3, 0x44)],
    outA := 0x0C, outRows := 3, outSelect := 4, trace := [.portA 0x0C, .portB 3 4] }

/-- V-41-11: `S=(1,1,0) C=(2,0,3,6,0101) FB=[3F,06,00,00] OUT=(01,88)`. -/
def dirty : State :=
  { atS 1 1 0 with
    bright := 2, bao := false, fhi := 3, fcnt := 6, nbm := 0b0101, fb := [(0, 0x3F), (1, 0x06)],
    outA := 0x01, outRows := 2, outSelect := 2 }

/-- `FB=[01,02,03,04]` of V-42-1. -/
def fourBytes : State := { State.reset with fb := [(0, 0x01), (1, 0x02), (2, 0x03), (3, 0x04)] }

/-! ## Well-formedness: an ill-formed term for each check -/

theorem test_wf_a_above_field : ¬ (Instr.setbright 32768).WellFormed := by decide
theorem test_wf_a_below_field : ¬ (Instr.fbrd (-32769)).WellFormed := by decide
theorem test_wf_b_above_field : ¬ (Instr.fbwr 0 32768).WellFormed := by decide
theorem test_wf_b_below_field : ¬ (Instr.sethilo 1 (-32769)).WellFormed := by decide
theorem test_wf_bounds_admitted : (Instr.sethilo 32767 (-32768)).WellFormed := by decide

/-! ## Decoding: every operation from a word written out (R66, V-30-1) -/

theorem test_decode_tick : decodeTrace 0x0000000000 = .instr .tick := by decide
theorem test_decode_reset : decodeCommand 0x0100000000 = .instr .reset := by decide
theorem test_decode_reset_ignores_fields : decodeCommand 0x01FFFFFFFF = .instr .reset := by decide
theorem test_decode_setbright : decodeCommand 0x020003BEEF = .instr (.setbright 3) := by decide
theorem test_decode_setbright_negative : decodeCommand 0x0280000000 = .instr (.setbright (-32768)) := by decide
theorem test_decode_getbright : decodeCommand 0x0312345678 = .instr .getbright := by decide
theorem test_decode_setblink : decodeCommand 0x0401000000 = .instr (.setblink 256) := by decide
theorem test_decode_getblink : decodeCommand 0x0500000000 = .instr .getblink := by decide
theorem test_decode_sethilo : decodeCommand 0x06FFFB012C = .instr (.sethilo (-5) 300) := by decide
theorem test_decode_gethi : decodeCommand 0x0700000000 = .instr .gethi := by decide
theorem test_decode_getlo : decodeCommand 0x0800000000 = .instr .getlo := by decide
theorem test_decode_setmask : decodeCommand 0x09FFFF0000 = .instr (.setmask (-1)) := by decide
theorem test_decode_getmask : decodeCommand 0x0A00000000 = .instr .getmask := by decide
theorem test_decode_fbwr : decodeCommand 0x0B000201FF = .instr (.fbwr 2 0x1FF) := by decide
theorem test_decode_fbrd : decodeCommand 0x0C00030000 = .instr (.fbrd 3) := by decide
theorem test_decode_fontget : decodeCommand 0x0DFFFF0041 = .instr (.fontget (-1) 0x41) := by decide

theorem test_decode_reserved_tick_code : decodeCommand 0x0000000000 = .rejected (.reservedOp 0x00) := by decide
theorem test_decode_reserved_above_map : decodeCommand 0x0E00000000 = .rejected (.reservedOp 0x0E) := by decide
theorem test_decode_reserved_last : decodeCommand 0xFFFFFFFFFF = .rejected (.reservedOp 0xFF) := by decide

/-- R66: lines with negative operands, an operand above a byte, and no operand. -/
theorem test_encode_lines : encode (.setbright (-1)) = 0x02FFFF0000 ∧ encode (.sethilo (-5) 300) = 0x06FFFB012C ∧
    encode (.fontget (-1) 0x41) = 0x0DFFFF0041 ∧ encode .getmask = 0x0A00000000 := by decide

theorem test_table_word : decodeTableWord 40 0x0000000000 = some .tick ∧
    decodeTableWord 40 0x0B0002003F = some (.fbwr 2 0x3F) ∧ decodeTableWord 40 0x0E00000000 = none := by decide

/-- R60, V-43-14. -/
theorem test_assembler_line : (Instr.fbwr 2 (-1)).asm = "FBWR 2, -1" ∧ Instr.getlo.asm = "GETLO" := by decide

theorem test_script_dwell : Script.dwell Config.reference = [.strobe, .strobe, .strobe, .strobe, .strobe] := by decide

/-- R61: `BLINK 4, 6` is `SETHILO 4, 6` and `SETBLINK 1`. -/
theorem test_script_blink : Script.blink 4 6 = [.command 0x0600040006, .command 0x0400010000] := by decide

/-! ## One step at a time -/

/-- V-40-6. -/
theorem test_tick_between : reached (exec .tick midDwell) = some { midDwell with slot := 2 } := by decide

/-- V-40-7: `FRAME` wraps, unit 0 is lit, four port writes. -/
theorem test_tick_frame_wrap : (reached (exec .tick (blinking 4 3 9))).map
      (fun t => (showS t, showOut t, t.trace)) =
    some ((0, 0, 0), (0x3F, 0xC4), [.portB 0 0, .portA 0, .portA 0x3F, .portB 3 1]) := by decide

/-- V-41-11. -/
theorem test_reset_mid_run : reached (exec .reset dirty) =
    some { State.reset with outA := 0x01, outRows := 2, outSelect := 2, responses := [0x00] } := by decide

/-- V-41-1. -/
theorem test_setbright_clamps : ([-32768, 0, 3, 6, 255] : List Int).map
      (fun a => (reached (exec (.setbright a) State.reset)).map State.bright) =
    [some 1, some 1, some 3, some 5, some 5] := by decide

/-- V-41-2. -/
theorem test_getbright : (reached (exec .getbright dirty)).map State.responses = some [2] := by decide

/-- V-41-3: the test is on the whole operand. -/
theorem test_setblink_whole_operand : (reached (exec (.setblink 256) State.reset)).map State.bao = some false ∧
    (reached (exec (.setblink 0) dirty)).map State.bao = some true := by decide

/-- V-41-4 and the row `SETBLINK 1` of V-41-3. -/
theorem test_getblink : (reached (exec .getblink State.reset)).map State.responses = some [0] ∧
    (reached (exec .getblink dirty)).map State.responses = some [1] := by decide

/-- V-41-5. -/
theorem test_sethilo_saturates : ([(-5, 300), (2, 254), (255, 255), (32767, -32768)] : List (Int × Int)).map
      (fun p => (reached (exec (.sethilo p.1 p.2) State.reset)).map (fun t => (t.fhi, t.fcnt))) =
    [some (1, 255), some (2, 255), some (254, 255), some (254, 255)] := by decide

/-- V-41-5, row `SETHILO 200, 100`. -/
theorem test_gethi_getlo : (reached (exec .gethi { dirty with fhi := 200, fcnt := 255 })).map State.responses = some [200] ∧
    (reached (exec .getlo { dirty with fhi := 200, fcnt := 255 })).map State.responses = some [55] := by decide

/-- V-41-8. -/
theorem test_setmask : ([0x10, 0xF5, -1, -16, -32768] : List Int).map
      (fun a => (reached (exec (.setmask a) State.reset)).map State.nbm) =
    [some 0, some 0b0101, some 0b1111, some 0, some 0] := by decide

/-- V-41-8, row `SETMASK 0b0101`. -/
theorem test_getmask : (reached (exec .getmask dirty)).map State.responses = some [0x05] := by decide

/-- V-42-1. -/
theorem test_fbwr : ([(2, 0x1FF), (1, -1), (1, 0x100)] : List (Int × Int)).map
      (fun p => (reached (exec (.fbwr p.1 p.2) fourBytes)).map showFb) =
    [some [0x01, 0x02, 0xFF, 0x04], some [0x01, 0xFF, 0x03, 0x04], some [0x01, 0x00, 0x03, 0x04]] := by decide

/-- V-42-3, the hardware form. -/
theorem test_fb_out_of_range : reached (exec (.fbwr 4 0x55) fourBytes) = some { fourBytes with responses := [0x00] } ∧
    reached (exec (.fbrd (-1)) fourBytes) = some { fourBytes with responses := [0x00] } := by decide

/-- V-42-2. -/
theorem test_fbrd : (reached (exec (.fbrd 3) fourBytes)).map State.responses = some [0x04] := by decide

/-- V-43-3, V-43-5, V-43-10, V-43-12, over symbolic table entries. -/
theorem test_fontget : reached (exec (.fontget 2 0xC1) fourBytes) =
      some { fourBytes with responses := [(Config.reference.fontRom 1 0x41).setWidth 8 ||| 0x80] } ∧
    reached (exec (.fontget (-1) (-191)) fourBytes) =
      some { fourBytes with responses := [(Config.reference.fontRom 0 0x41).setWidth 8 ||| 0x00] } := ⟨rfl, rfl⟩

/-- V-70-1. -/
theorem test_power_on_state : showS State.reset = (4, 3, 49) ∧ showC State.reset = (4, true, 25, 50, 0) ∧
    showFb State.reset = [0, 0, 0, 0] ∧ showOut State.reset = (0, 0) := by decide

/-- V-70-2, through a step. -/
theorem test_first_tick : (reached (step (State.reset.withFetchWord 40 0))).map
      (fun t => (showS t, showOut t, t.trace, t.inputs)) =
    some ((0, 0, 0), (0x00, 0x04), [.portB 0 0, .portA 0, .portA 0, .portB 0 1], []) := by decide

/-- R58, the hardware form, through a step. -/
theorem test_reserved_word : reached (step { fourBytes with inputs := [.command 0xFFFFFFFFFF, .strobe] }) =
    some { fourBytes with responses := [0x00], inputs := [.strobe] } := by decide

/-- R131 through a step. -/
theorem test_power_on : reached (step { dirty with inputs := [.powerOn, .strobe] }) =
    some { State.reset with inputs := [.strobe] } := by decide

/-- The smallest configuration the spec admits. -/
def smallest : Config :=
  { Config.reference with unitCount := 1, slotCount := 2, tickHz := 1, brightReset := 1, unique7sId := 0, opw := 9 }

theorem smallest_legal : smallest.Legal := by
  constructor <;> decide

/-- The largest, with both switches the other way. -/
def largest : Config :=
  { Config.reference with
    unitCount := 4, slotCount := 255, brightReset := 255, unique7sId := 1,
    brightPolicy := .ignore, maskOperandInverted := true }

theorem largest_legal : largest.Legal := by
  constructor <;> decide

/-- R7: no ticks per second is not a configuration. -/
theorem test_tick_rate_positive : ¬ ({ Config.reference with tickHz := 0 } : Config).Legal :=
  fun h => absurd h.tickHz_pos (by decide)

/-! ## States and operands that meet the statements' hypotheses -/

theorem inv_reset : Inv Config.reference State.reset :=
  ⟨by decide, by decide, by decide, by decide, by decide, by decide, by decide, by decide, .inl rfl, rfl⟩

/-- A unit lit in the middle of its dwell. -/
theorem inv_midDwell : Inv Config.reference midDwell :=
  ⟨by decide, by decide, by decide, by decide, by decide, by decide, by decide, by decide, .inr (.inl rfl), rfl⟩

theorem inv_blinking_wrap : Inv Config.reference (blinking 4 3 9) :=
  ⟨by decide, by decide, by decide, by decide, by decide, by decide, by decide, by decide, .inl rfl, rfl⟩

/-- The transient of R141: `FRAME = 101`, `FCNT = 10` (P5 of the vectors). -/
theorem inv_shrunk : Inv Config.reference (blinking 4 0 101) :=
  ⟨by decide, by decide, by decide, by decide, by decide, by decide, by decide, by decide, .inl rfl, rfl⟩

/-- Full duty: the last slot of a dwell, with the unit still lit. -/
def fullDuty : State :=
  { atS 4 1 0 with bright := 5, outSelect := 2, trace := [.portA 0, .portB 0 2] }

theorem inv_fullDuty : Inv Config.reference fullDuty :=
  ⟨by decide, by decide, by decide, by decide, by decide, by decide, by decide, by decide, .inr (.inl rfl), rfl⟩

/-- After `RESET` in the middle of a run, as V-41-11: counters preset, unit 1 still selected (log 21). -/
def presetWhileLit : State :=
  { State.reset with outA := 0x01, outRows := 2, outSelect := 2, trace := [.portA 0x01, .portB 2 2] }

theorem inv_presetWhileLit : Inv Config.reference presetWhileLit :=
  ⟨by decide, by decide, by decide, by decide, by decide, by decide, by decide, by decide,
    .inr (.inr ⟨by decide, .inr ⟨1, by decide, rfl⟩⟩), rfl⟩

/-- `DecodeReadsBackEncode`: operands at both bounds, and the operation that is no command. -/
theorem witness_DecodeReadsBackEncode :
    (Instr.fbwr (-32768) 32767).WellFormed ∧ Instr.fbwr (-32768) 32767 ≠ .tick ∧ Instr.tick.WellFormed := by decide

/-- `EveryWordIsCommandOrReserved`: both ends of the command codes, and the reserved codes beside them. -/
theorem witness_EveryWordIsCommandOrReserved : (opField 0x0100000000).toNat = 0x01 ∧ (opField 0x0D00000000).toNat = 0x0D ∧
    (opField 0x0000000000).toNat = 0x00 ∧ (opField 0x0E00000000).toNat = 0x0E := by decide

/-- `UnusedFieldsAreIgnored`: two words that differ in the field `SETBRIGHT` does not use. -/
theorem witness_UnusedFieldsAreIgnored : decodeCommand 0x0200030000 = .instr (.setbright 3) ∧
    opField 0x020003BEEF = opField 0x0200030000 ∧ aField 0x020003BEEF = aField 0x0200030000 ∧
    (Instr.setbright 3).operandB = none ∧ Instr.reset.operandA = none := by decide

/-- `EncodeWritesBackDecode`: `test_decode_fbwr` gives a word that decodes, with both operands used. -/
theorem witness_EncodeWritesBackDecode : decodeCommand 0x0B8000FFFF = .instr (.fbwr (-32768) (-1)) ∧
    (Instr.fbwr (-32768) (-1)).operandA ≠ none ∧ (Instr.fbwr (-32768) (-1)).operandB ≠ none := by decide

/-- `StepRunsTheDecodedOperation`: a strobe presented, and a word that decodes. -/
theorem witness_StepRunsTheDecodedOperation :
    ({ dirty with inputs := [.strobe, .powerOn] } : State).inputs = .strobe :: [.powerOn] ∧
    ({ dirty with inputs := [.command 0x0B000201FF] } : State).inputs = .command 0x0B000201FF :: [] ∧
    decodeCommand 0x0B000201FF = .instr (.fbwr 2 0x1FF) := by decide

/-- `StepRunsThePresentedTableWord`. -/
theorem witness_StepRunsThePresentedTableWord : decodeTableWord 40 0x0DFFFF0041 = some (.fontget (-1) 0x41) ∧
    decodeTableWord 40 0 = some .tick := by decide

/-- `ReservedWordChangesNothing`: both clauses, at their bounds. -/
theorem witness_ReservedWordChangesNothing : opField 0x0012345678 = 0x00 ∧ 0x0E ≤ (opField 0x0E00000000).toNat ∧
    0x0E ≤ (opField 0xFFFFFFFFFF).toNat ∧
    ({ dirty with inputs := [.command 0x0E00000000] } : State).inputs = .command 0x0E00000000 :: [] := by decide

/-- `BlockIsIdleWithoutAnEvent`. -/
theorem witness_BlockIsIdleWithoutAnEvent : dirty.inputs = [] := by decide

/-- `PowerOnIsResetWithDarkPorts` and `PowerOnRestoresTheResetState`: power-on while a unit is lit. -/
theorem witness_PowerOn : ({ dirty with inputs := [.powerOn, .strobe] } : State).inputs = .powerOn :: [.strobe] ∧
    dirty.pins ≠ Pins.cleared := by decide

/-- `GetbrightAnswersTheDuty`: a state with the invariant, and both ends of the legal values. -/
theorem witness_GetbrightAnswersTheDuty : Inv Config.reference fullDuty ∧ 1 ≤ 1 ∧ 1 ≤ Config.reference.slotCount ∧
    5 ≤ Config.reference.slotCount := ⟨inv_fullDuty, by decide, by decide, by decide⟩

/-- `GethiAnswersTheOnDuration` and `GetloAnswersTheOffDuration`. -/
theorem witness_GethiGetlo : Inv Config.reference midDwell := inv_midDwell

/-- `SettersAreIndependent`: two different setters. -/
theorem witness_SettersAreIndependent : isSetter (.setbright 2) ∧ isSetter (.setmask (-1)) ∧
    (Instr.setbright 2).mnemonic ≠ (Instr.setmask (-1)).mnemonic := by
  unfold isSetter
  decide

/-- `SetblinkStoresTheComplement`: the clause for disabling; `MaskRoundTripInBothReadings`: both readings. -/
theorem witness_SetblinkAndMask : (0 : Int) = 0 ∧ Config.reference.Legal ∧ largest.Legal ∧
    largest.maskOperandInverted = true := ⟨rfl, reference_legal, largest_legal, rfl⟩

/-- `PutcStoresThePatternOfTheCharacter`: the last unit, and a character with its decimal point. -/
theorem witness_PutcStoresThePatternOfTheCharacter : 3 < Config.reference.unitCount ∧ fitsField 1 ∧ fitsField 0xC1 ∧
    fourBytes.fb.wf ∧ ({ fourBytes with inputs := Script.putc Config.reference 3 1 0xC1 } : State).inputs =
      Script.putc Config.reference 3 1 0xC1 ++ [] := ⟨by decide, by decide, by decide, by decide, rfl⟩

/-- `ContextsKeepTheirRights`: an operation for each clause. -/
theorem witness_ContextsKeepTheirRights : Instr.reset ≠ .tick ∧ Instr.fbwr 0 0 ≠ .tick ∧ Instr.fbwr 0 0 ≠ .reset ∧
    (Instr.setmask 1).mnemonic ∉ ["FBWR", "RESET"] ∧
    (Instr.fontget 0 0).mnemonic ∈ ["GETBRIGHT", "GETBLINK", "GETHI", "GETLO", "GETMASK", "FBRD", "FONTGET"] := by decide

/-- `FbwrStoresOneByte`: a canonical buffer; indices at and past both ends. -/
theorem witness_FbwrStoresOneByte : fourBytes.fb.wf ∧ (0 : Int) = (0 : Nat) ∧ 0 < Config.reference.unitCount ∧
    (3 : Int) = (3 : Nat) ∧ 3 < Config.reference.unitCount ∧
    ¬ (0 ≤ (4 : Int) ∧ (4 : Int) < Config.reference.unitCount) ∧
    ¬ (0 ≤ (-1 : Int) ∧ (-1 : Int) < Config.reference.unitCount) := by decide

/-- A unit rollover onto unit 0 with blinking off: the premises of the tick statements about a visible unit. -/
theorem rollover_reset : rollsOver State.reset ∧ passEnds State.reset ∧ (unitAhead State.reset).toNat = 0 ∧
    State.reset.bright.toNat ≤ Config.reference.slotCount ∧
    Gate State.reset (unitAhead State.reset) (frameAhead State.reset) := by
  unfold rollsOver passEnds Gate
  decide

/-- A unit rollover onto a blinking unit in the dark part of the period. -/
theorem rollover_hidden : rollsOver (blinking 4 3 8) ∧ (blinking 4 3 8).bright.toNat ≤ Config.reference.slotCount ∧
    ¬ Gate (blinking 4 3 8) (unitAhead (blinking 4 3 8)) (frameAhead (blinking 4 3 8)) := by
  unfold rollsOver Gate
  decide

/-- A rollover onto a unit that is visible only because it is exempt, and one only because of the frame. -/
theorem rollover_exempt_or_in_phase :
    Gate { blinking 4 0 9 with nbm := 0b0010 } 1 9 ∧ Gate (blinking 4 0 3) 1 3 ∧ ¬ Gate (blinking 4 0 4) 1 4 := by
  unfold Gate
  decide

/-- `WriteShowsAtTheUnitsOwnRollover`: a write to the unit rolled onto, to another unit, and between rollovers; the last
unit of the buffer among them. -/
theorem witness_WriteShowsAtTheUnitsOwnRollover : Inv Config.reference State.reset ∧ 0 < Config.reference.unitCount ∧
    3 < Config.reference.unitCount ∧ rollsOver State.reset ∧ (unitAhead State.reset).toNat = 0 ∧
    Gate State.reset (unitAhead State.reset) (frameAhead State.reset) ∧
    ¬ (rollsOver State.reset ∧ (unitAhead State.reset).toNat = 3) ∧ ¬ rollsOver midDwell :=
  ⟨inv_reset, by decide, by decide, rollover_reset.1, by decide, rollover_reset.2.2.2.2,
    by unfold rollsOver; decide, by unfold rollsOver; decide⟩

/-- `TickAdvancesTheCounters`: the last slot that is no rollover and the first that is one. -/
theorem witness_TickAdvancesTheCounters : ¬ rollsOver (atS 3 0 0) ∧ rollsOver (atS 4 0 0) ∧
    Inv Config.reference midDwell := ⟨by unfold rollsOver; decide, by unfold rollsOver; decide, inv_midDwell⟩

/-- `TickClearsAtTheDutyBound` and `TickBetweenRolloversNeverLights`: below the duty bound and at it. -/
theorem witness_TickBetweenRolloversNeverLights : ¬ rollsOver (atS 3 0 0) ∧
    (atS 3 0 0).bright.toNat ≤ (slotAhead (atS 3 0 0)).toNat ∧ ¬ rollsOver (atS 2 0 0) ∧
    (slotAhead (atS 2 0 0)).toNat < (atS 2 0 0).bright.toNat := by
  unfold rollsOver
  decide

/-- `RolloverLightsAVisibleUnit`, at full duty. -/
theorem witness_RolloverLightsAVisibleUnit : rollsOver fullDuty ∧ fullDuty.bright.toNat ≤ Config.reference.slotCount ∧
    Gate fullDuty (unitAhead fullDuty) (frameAhead fullDuty) := by
  unfold rollsOver Gate
  decide

/-- `RolloverLeavesAHiddenUnitDark`. -/
theorem witness_RolloverLeavesAHiddenUnitDark : rollsOver (blinking 4 3 8) ∧
    (blinking 4 3 8).bright.toNat ≤ Config.reference.slotCount ∧
    ¬ Gate (blinking 4 3 8) (unitAhead (blinking 4 3 8)) (frameAhead (blinking 4 3 8)) := rollover_hidden

/-- `WiringSplitIsExact`: the first and the last unit. -/
theorem witness_WiringSplitIsExact : 0 < Config.reference.unitCount ∧ 3 < Config.reference.unitCount := by decide

/-- `NoUnitShowsAnothersPattern` and `StepKeepsTheInvariants`: a lit state, one at full duty about to roll over, and one
preset while a unit is lit. -/
theorem witness_Inv : Inv Config.reference midDwell ∧ Inv Config.reference fullDuty ∧ Inv Config.reference presetWhileLit :=
  ⟨inv_midDwell, inv_fullDuty, inv_presetWhileLit⟩

/-- `TickReadsOneByteAtMost`: another buffer with the same byte for the unit rolled onto; and any buffer between
rollovers. -/
theorem witness_TickReadsOneByteAtMost : rollsOver (blinking 4 3 9) ∧
    Gate (blinking 4 3 9) (unitAhead (blinking 4 3 9)) (frameAhead (blinking 4 3 9)) ∧
    Memory.read [(0, 0xFF)] (unitAhead (blinking 4 3 9)).toNat =
      (blinking 4 3 9).fb.read (unitAhead (blinking 4 3 9)).toNat ∧ ¬ rollsOver midDwell := by
  unfold rollsOver Gate
  decide

/-- `FrameReentersItsRangeAtAPass`: from the transient. -/
theorem witness_FrameReentersItsRangeAtAPass : rollsOver (blinking 4 3 101) ∧ passEnds (blinking 4 3 101) ∧
    1 ≤ (blinking 4 3 101).fcnt.toNat := by
  unfold rollsOver passEnds
  decide

/-- `ShrunkPeriodHidesBlinkingUnits`. -/
theorem witness_ShrunkPeriodHidesBlinkingUnits : Inv Config.reference (blinking 4 0 101) ∧ rollsOver (blinking 4 0 101) ∧
    ¬ passEnds (blinking 4 0 101) ∧ (blinking 4 0 101).fcnt.toNat ≤ (blinking 4 0 101).frame.toNat ∧
    (blinking 4 0 101).bao = false ∧ (blinking 4 0 101).nbm.getLsbD (unitAhead (blinking 4 0 101)).toNat = false :=
  ⟨inv_shrunk, by unfold rollsOver; decide, by unfold passEnds; decide, by decide, by decide, by decide⟩

/-- `EveryLegalConfigurationIsSafe`: both ends of the legal configurations. -/
theorem witness_EveryLegalConfigurationIsSafe : smallest.Legal ∧ largest.Legal ∧
    Inv smallest (State.afterPowerOn smallest) :=
  ⟨smallest_legal, largest_legal,
    ⟨by decide, by decide, by decide, by decide, by decide, by decide, by decide, by decide, .inl rfl, rfl⟩⟩

/-- `SteadyStateSchedule`. -/
theorem witness_SteadyStateSchedule : Config.reference.Legal ∧ Inv Config.reference State.reset ∧
    State.reset.slot.toNat = Config.reference.slotCount - 1 ∧ State.reset.unit.toNat = Config.reference.unitCount - 1 ∧
    State.reset.frame.toNat = 49 := ⟨reference_legal, inv_reset, by decide, by decide, by decide⟩

/-- `StrobesRunTicks`. -/
theorem witness_StrobesRunTicks : ({ dirty with inputs := [.strobe, .strobe, .powerOn] } : State).inputs =
    List.replicate 2 .strobe ++ [.powerOn] := by decide

/-- `ForegroundCannotSeeTheCounters`: two states that differ in every counter and port. -/
theorem witness_ForegroundCannotSeeTheCounters :
    SameForeground { dirty with slot := 4, unit := 3, frame := 49, outA := 0, outRows := 0, outSelect := 0 } dirty := by
  unfold SameForeground
  decide

end Sys2Proof.Tests
end

section
/-! SUPPORT. The invariants of R32 of `10_state.md`: each effect of the block keeps them, in every legal configuration. -/

namespace Sys2Proof.Safety

open Sys2Proof.Machine

variable {c : Config} {s : State}

/-! ## The ranges of what is stored -/

/-- A byte made of a number in the range of a byte is that number. -/
theorem toNat_ofNat8 {n : Nat} (h : n < 256) : (BitVec.ofNat 8 n).toNat = n :=
  (BitVec.toNat_ofNat n 8).trans (Nat.mod_eq_of_lt h)

/-- Under both policies of U2, `SETBRIGHT` leaves a duty value in range (R87). -/
theorem dutyOperand_range (hc : c.Legal) {old : Byte} (hold : 1 ≤ old.toNat ∧ old.toNat ≤ c.slotCount) (a : Int) :
    1 ≤ (dutyOperand c old a).toNat ∧ (dutyOperand c old a).toNat ≤ c.slotCount := by
  obtain ⟨hlo, hhi⟩ := hc.slotCount_range
  have stored {v : Int} (hv : 1 ≤ v ∧ v ≤ c.slotCount) :
      1 ≤ (BitVec.ofInt 8 v).toNat ∧ (BitVec.ofInt 8 v).toNat ≤ c.slotCount := by
    have := toNat_ofInt8 (v := v) (by omega)
    omega
  unfold dutyOperand
  split
  · exact stored (clamp_range a (by omega))
  · split
    · exact stored ‹_›
    · exact hold

/-- Under both readings of C1, `SETMASK` stores one bit per unit (R94). -/
theorem maskOperand_lt (hc : c.Legal) (a : Int) : (maskOperand c a).toNat < 2 ^ c.unitCount := by
  have hpos : (0 : Int) < 2 ^ c.unitCount := by positivity
  have hle : (2 : Int) ^ c.unitCount ≤ 2 ^ 4 := pow_le_pow_right₀ (by decide) hc.unitCount_range.2
  unfold maskOperand
  generalize (if c.maskOperandInverted then -a - 1 else a) = v
  have h0 := Int.emod_nonneg v hpos.ne'
  have h1 := Int.emod_lt_of_pos v hpos
  have := toNat_ofInt8 (v := v % 2 ^ c.unitCount) (by omega)
  zify
  omega

/-- An index that names a unit is below `UNITCOUNT` (R37). -/
theorem indexOperand_lt {a : Int} {i : Nat} (h : indexOperand c a = some i) : i < c.unitCount := by
  unfold indexOperand at h
  split at h
  · cases h
    omega
  · cases h

/-- After a frame rollover `FRAME` is below `FCNT`, so below 255 (R32 item 5, R71). -/
theorem nextFrame_le (fcnt frame : Byte) : (nextFrame fcnt frame).toNat ≤ 254 := by
  unfold nextFrame
  split
  · decide
  · omega

/-! ## Ports and trace -/

theorem replay_append (p : Pins) (ws vs : List PortWrite) : p.replay (ws ++ vs) = (p.replay ws).replay vs :=
  List.foldl_append

/-! ## The events to come, the responses, the frame buffer -/

theorem Inv.withInputs (h : Inv c s) (es : List Input) : Inv c { s with inputs := es } := { h with }

theorem Inv.respond (h : Inv c s) (v : Byte) : Inv c (s.respond v) := { h with }

theorem Inv.writeFb (h : Inv c s) {i : Nat} (hi : i < c.unitCount) (b : Byte) : Inv c (s.writeFb i b) :=
  { h with
    fb_wf := Memory.write_wf s.fb i b h.fb_wf
    fb_cells := fun x hx => by
      rcases Memory.mem_write hx with ⟨rfl, -⟩ | hx
      · exact hi
      · exact h.fb_cells x hx }

theorem Inv.fbWrite (h : Inv c s) (a b : Int) : Inv c (s.fbWrite c a b) := by
  unfold State.fbWrite
  split
  · exact (h.writeFb (indexOperand_lt ‹_›) _).respond _
  · exact h.respond _

/-! ## The settings -/

theorem Inv.setBright (hc : c.Legal) (h : Inv c s) (a : Int) : Inv c (s.setBright c a) :=
  { h with bright_range := dutyOperand_range hc h.bright_range a }

theorem Inv.setBlink (h : Inv c s) (a : Int) : Inv c (s.setBlink a) := { h with }

theorem Inv.setHiLo (h : Inv c s) (a b : Int) : Inv c (s.setHiLo a b) :=
  { h with
    blink_range := by
      have := framesOperand_range a
      have := periodOperand_range a b
      have := framesOperand_toNat a
      have := periodOperand_toNat a b
      simp only [State.setHiLo_fhi, State.setHiLo_fcnt]
      omega }

theorem Inv.setMask (hc : c.Legal) (h : Inv c s) (a : Int) : Inv c (s.setMask c a) :=
  { h with mask_lt := maskOperand_lt hc a }

/-! ## Power-on and `RESET` -/

theorem preset_counters (hc : c.Legal) (s : State) : CountersPreset c (s.preset c) :=
  ⟨toNat_ofNat8 (by have := hc.slotCount_range; omega), toNat_ofNat8 (by have := hc.unitCount_range; omega)⟩

/-- Power-on needs no invariant before it (R131, R137). -/
theorem inv_powerOn (hc : c.Legal) (s : State) : Inv c (s.powerOn c) := by
  obtain ⟨hslot, hunit⟩ := preset_counters hc s
  have hslots := hc.slotCount_range
  have hunits := hc.unitCount_range
  have hbright : (s.powerOn c).bright.toNat = c.brightReset :=
    toNat_ofNat8 (by have := hc.brightReset_range; omega)
  have hfcnt : (s.powerOn c).fcnt = 50 := by rw [State.powerOn_fcnt, hc.fcntReset_fixed]; rfl
  have hfhi : (s.powerOn c).fhi = 25 := by rw [State.powerOn_fhi, hc.fhiReset_fixed]; rfl
  have hframe : (s.powerOn c).frame = 49 := by rw [State.powerOn_frame, hc.fcntReset_fixed]; rfl
  exact {
    bright_range := hbright ▸ hc.brightReset_range
    blink_range := by rw [hfcnt, hfhi]; decide
    slot_lt := hslot.trans_lt (by omega)
    unit_lt := hunit.trans_lt (by omega)
    frame_le := by rw [hframe]; decide
    mask_lt := Nat.two_pow_pos _
    fb_wf := Memory.zeroed_wf
    fb_cells := fun x hx => by cases hx
    select_ok := .inr (.inr ⟨⟨hslot, hunit⟩, .inl rfl⟩)
    ports_traced := rfl }

/-- The state after power-on is itself what power-on makes of it. -/
theorem inv_afterPowerOn (hc : c.Legal) : Inv c (State.afterPowerOn c) := inv_powerOn hc (State.afterPowerOn c)

/-- `RESET` stores what power-on stores and keeps the ports: a unit on display stays selected while `UNIT` is preset
(R86; log 21). -/
theorem Inv.preset (hc : c.Legal) (h : Inv c s) : Inv c (s.preset c) :=
  { inv_powerOn hc s with
    select_ok := by
      rcases h.select_ok with hdark | hsel | ⟨-, hports⟩
      · exact .inl hdark
      · exact .inr (.inr ⟨preset_counters hc s, .inr ⟨_, h.unit_lt, hsel⟩⟩)
      · exact .inr (.inr ⟨preset_counters hc s, hports⟩)
    ports_traced := h.ports_traced }

/-! ## The tick (R81) -/

theorem Inv.makeDark (h : Inv c s) : Inv c s.makeDark :=
  { h with
    select_ok := .inl rfl
    ports_traced := by
      rw [State.makeDark_trace, replay_append, ← h.ports_traced]
      rfl }

theorem Inv.dutyClear (h : Inv c s) : Inv c s.dutyClear := by
  rcases s.dutyClear_cases with ⟨-, e⟩ | ⟨-, e⟩ <;> rw [e]
  · exact h.makeDark
  · exact h

theorem Inv.light (h : Inv c s) : Inv c s.light :=
  { h with
    select_ok := .inr (.inl rfl)
    ports_traced := by
      rw [State.light_trace, replay_append, ← h.ports_traced]
      rfl }

theorem Inv.lightIfVisible (h : Inv c s) : Inv c s.lightIfVisible := by
  rcases s.lightIfVisible_cases with ⟨-, e⟩ | ⟨-, e⟩ <;> rw [e]
  · exact h.light
  · exact h

/-- Between unit rollovers the counters are not preset, so the exception of item 7 does not arise. -/
theorem Inv.advanceSlot (hc : c.Legal) (h : Inv c s) (hroll : ¬ c.slotCount ≤ (s.slot + 1).toNat) :
    Inv c s.advanceSlot :=
  { h with
    slot_lt := Nat.not_le.1 hroll
    select_ok := by
      rcases h.select_ok with hdark | hsel | ⟨⟨hslot, -⟩, -⟩
      · exact .inl hdark
      · exact .inr (.inl hsel)
      · have := hc.slotCount_range
        have : (s.slot + 1).toNat = s.slot.toNat + 1 := by bv_omega
        omega }

theorem Inv.rolledDark (hc : c.Legal) (h : Inv c s) : Inv c (s.rolledDark c) :=
  { h.makeDark with
    slot_lt := Nat.zero_lt_of_lt hc.slotCount_range.1
    unit_lt := nextUnit_lt hc.unitCount_range.1 s.unit
    frame_le := by
      unfold State.rolledDark
      split
      · exact nextFrame_le s.fcnt s.frame
      · exact h.frame_le
    select_ok := .inl rfl
    ports_traced := by
      have := h.makeDark.ports_traced
      rwa [State.makeDark_trace] at this }

/-- A unit rollover darkens, moves on and lights if visible; any other tick advances `SLOT` and darkens at the duty
bound. -/
theorem Inv.tick (hc : c.Legal) (h : Inv c s) : Inv c (s.tick c) := by
  by_cases hroll : c.slotCount ≤ (s.slot + 1).toNat
  · rw [State.tick_rollover_dark hroll h.bright_range.2]
    exact (h.rolledDark hc).lightIfVisible
  · rw [State.tick_between hroll]
    exact (h.advanceSlot hc hroll).dutyClear

/-! ## Every operation and every step -/

theorem Inv.perform (hc : c.Legal) (h : Inv c s) (i : Instr) : Inv c (s.perform c i) := by
  cases i with
  | tick => exact h.tick hc
  | reset => exact (h.preset hc).respond _
  | setbright a => exact h.setBright hc a
  | setblink a => exact h.setBlink a
  | sethilo a b => exact h.setHiLo a b
  | setmask a => exact h.setMask hc a
  | fbwr a b => exact h.fbWrite a b
  | getbright | getblink | gethi | getlo | getmask | fbrd _ | fontget _ _ => exact h.respond _

/-- R149 with R32: a step completes, and keeps the invariants, whatever event is presented. -/
theorem Inv.step (h : Inv Config.reference s) : ∃ t, step s = .next t ∧ Inv Config.reference t := by
  rcases hin : s.inputs with _ | ⟨e, rest⟩
  · exact ⟨s, step_idle hin, h⟩
  · have hrest := h.withInputs rest
    cases e with
    | strobe => exact ⟨_, (step_strobe hin).trans (exec_eq_perform _ _), hrest.perform reference_legal _⟩
    | powerOn => exact ⟨_, step_powerOn hin, inv_powerOn reference_legal _⟩
    | command w =>
      cases hd : decodeCommand w with
      | instr i => exact ⟨_, (step_instr hin hd).trans (exec_eq_perform _ _), hrest.perform reference_legal i⟩
      | rejected why => exact ⟨_, step_rejected hin hd, hrest.respond 0x00⟩

end Sys2Proof.Safety

namespace Sys2Proof.Machine

/-- Taking events off those to come before a tick or after it gives the same state. -/
theorem State.tick_with_inputs (c : Config) (s : State) (es : List Input) :
    ({ s with inputs := es } : State).tick c = { s.tick c with inputs := es } :=
  State.perform_with_inputs c .tick s es

/-- A strobe presented next runs one tick, with the later events kept. -/
theorem step_strobe_tick {s : State} {rest : List Input} (h : s.inputs = .strobe :: rest) :
    step s = .next { s.tick Config.reference with inputs := rest } := by
  rw [step_strobe h, exec_eq_perform, State.perform, State.tick_with_inputs]

end Sys2Proof.Machine
end

section
/-! PROOFS. The statements about a step, a run of strobes and the invariants (`00_scope.md`). -/

namespace Sys2Proof.Proofs.Scope

open Sys2Proof.Machine Sys2Proof.Safety

/-- Settles O51, by the event presented. -/
theorem stepKeepsTheInvariants : Obligations.StepKeepsTheInvariants := fun _ h => h.step

/-- Settles O52: power-on in any state establishes the invariants, and every operation keeps them. -/
theorem everyLegalConfigurationIsSafe : Obligations.EveryLegalConfigurationIsSafe := fun _ hc =>
  ⟨inv_afterPowerOn hc, fun s h => ⟨inv_powerOn hc s, h.perform hc⟩⟩

/-- Settles O54, by induction on the number of strobes; a tick commutes with taking events off those to come. -/
theorem strobesRunTicks : Obligations.StrobesRunTicks := by
  unfold Obligations.StrobesRunTicks
  intro n s rest h
  induction n generalizing s with
  | zero =>
    obtain rfl : s.inputs = rest := h
    rfl
  | succ n ih =>
    rw [run_succ n (step_strobe_tick h), ih _ rfl, State.ticks, State.tick_with_inputs _ s rest]

/-- Settles O7. -/
theorem stepRunsTheDecodedOperation : Obligations.StepRunsTheDecodedOperation :=
  ⟨fun _ _ h => step_strobe h, fun _ _ _ _ h hd => step_instr h hd⟩

/-- Settles O12, operation by operation. -/
theorem execIsPerformOfTheReferenceSystem : Obligations.ExecIsPerformOfTheReferenceSystem := exec_eq_perform

end Sys2Proof.Proofs.Scope
end

section
/-! SUPPORT. What `10_state.md` says of the counters, the mask and the wiring, for the general configuration where the
fact holds there. -/

namespace Sys2Proof.Machine

variable {c : Config} {s : State}

/-! ## The counters across a tick (R68, R71) -/

/-- A byte below its maximum counts on without wrapping. -/
theorem toNat_succ {x : Byte} (h : x.toNat < 255) : (x + 1).toNat = x.toNat + 1 :=
  BitVec.toNat_add_of_lt (Nat.succ_lt_succ h)

/-- The frame counter enters its range at every frame rollover, from wherever it was (R72). -/
theorem nextFrame_lt {fcnt : Byte} (h : 1 ≤ fcnt.toNat) (frame : Byte) : (nextFrame fcnt frame).toNat < fcnt.toNat := by
  unfold nextFrame
  split
  · exact h
  · omega

theorem nextUnit_of_last {unit : Byte} (h : c.unitCount ≤ (unit + 1).toNat) : nextUnit c unit = 0 := if_pos h

/-- Lighting a unit writes the ports only. -/
theorem State.lightIfVisible_counters (s : State) : s.lightIfVisible.slot = s.slot ∧ s.lightIfVisible.unit = s.unit ∧
    s.lightIfVisible.frame = s.frame := by
  rcases s.lightIfVisible_cases with ⟨-, e⟩ | ⟨-, e⟩ <;> rw [e] <;> simp

/-- The counters after a unit rollover. -/
theorem State.tick_rollover_counters (h : c.slotCount ≤ (s.slot + 1).toNat) :
    (s.tick c).slot = 0 ∧ (s.tick c).unit = nextUnit c s.unit ∧
    (s.tick c).frame = if c.unitCount ≤ (s.unit + 1).toNat then nextFrame s.fcnt s.frame else s.frame := by
  obtain ⟨-, hunit, hframe, -, -, hfcnt, -⟩ := s.advanceSlot.dutyClear_frame
  rw [State.tick_rollover h]
  simp [State.lightIfVisible_counters, State.advanceUnit_eq, hunit, hframe, hfcnt]

/-- The counters after any other tick. -/
theorem State.tick_between_counters (h : ¬ c.slotCount ≤ (s.slot + 1).toNat) :
    (s.tick c).slot = s.slot + 1 ∧ (s.tick c).unit = s.unit ∧ (s.tick c).frame = s.frame := by
  obtain ⟨hslot, hunit, hframe, -⟩ := s.advanceSlot.dutyClear_frame
  rw [State.tick_between h]
  exact ⟨hslot, hunit, hframe⟩

/-! ## The mask (R94) -/

/-- The mask of the reference system is the operand modulo 16. -/
theorem maskOperand_toNat (a : Int) : ((maskOperand Config.reference a).toNat : Int) = a % 2 ^ 4 :=
  toNat_ofInt8 (v := a % 2 ^ 4) (by omega)

/-- So it is the low four bits of the operand's field. -/
theorem maskOperand_eq_setWidth (a : Int) :
    maskOperand Config.reference a = ((BitVec.ofInt 16 a).setWidth 4).setWidth 8 := by
  have h := maskOperand_toNat a
  apply BitVec.eq_of_toNat_eq
  simp only [BitVec.toNat_setWidth, BitVec.toNat_ofInt]
  omega

theorem maskOperand_getLsbD (a : Int) (u : Nat) :
    (maskOperand Config.reference a).getLsbD u = (decide (u < 4) && (BitVec.ofInt 16 a).getLsbD u) := by
  rw [maskOperand_eq_setWidth, BitVec.getLsbD_setWidth, BitVec.getLsbD_setWidth]
  by_cases hu : u < 4
  · simp [hu, show u < 8 by omega]
  · simp [hu]

/-! ## The wiring (R31, R75, R76) -/

theorem rowsA_toNat (p : Byte) : (rowsA p).toNat = p.toNat / 4 := by
  rw [rowsA, BitVec.extractLsb'_toNat, Nat.shiftRight_eq_div_pow]
  omega

theorem rowsA_getLsbD (p : Byte) {k : Nat} (hk : k < 6) : (rowsA p).getLsbD k = p.getLsbD (k + 2) := by
  simp [rowsA, hk, Nat.add_comm]

theorem onehot_getLsbD {u : Nat} (hu : u < 4) (v : Nat) : (onehot u).getLsbD v = decide (v = u) := by
  rw [onehot, ← BitVec.twoPow_eq, BitVec.getLsbD_twoPow]
  simp [hu, eq_comm]

/-- The two row fields put together are the pattern again. -/
theorem Pins.rows_showing (p : Byte) (u : Nat) : (Pins.showing p u).rows = p :=
  (BitVec.extractLsb'_append_extractLsb'_eq_extractLsb' (x := p) rfl).trans BitVec.extractLsb'_eq_self

theorem Pins.lit_showing (p : Byte) {u : Nat} (hu : u < 4) (v k : Nat) :
    (Pins.showing p u).lit v k = (decide (v = u) && p.getLsbD k) := by
  rw [Pins.lit, Pins.rows_showing]
  exact congrArg (· && _) (onehot_getLsbD hu v)

/-- The bus `OUTB`: bits 7:6 are row lines, bits 5:2 select lines, and the engine does not own bits 1:0 (R62). -/
theorem Pins.busB_getLsbD (q : Pins) (i : Nat) : q.busB.getLsbD i =
    if i < 2 then false else if i < 6 then q.outSelect.getLsbD (i - 2) else q.outRows.getLsbD (i - 6) := by
  simp only [Pins.busB, BitVec.getLsbD_append, BitVec.getLsbD_zero]
  split
  · rfl
  · simp only [show i - 2 < 4 ↔ i < 6 by omega, Nat.sub_sub]

theorem rowsB_getLsbD (p : Byte) {k : Nat} (hk : k < 2) : (rowsB p).getLsbD k = p.getLsbD k := by
  simp [rowsB, hk]

theorem rowsB_setWidth (p : Byte) : (rowsB p).setWidth 8 = p &&& 0x03 := by
  apply BitVec.eq_of_toNat_eq
  rw [BitVec.toNat_and, show (0x03 : Byte).toNat = 2 ^ 2 - 1 from rfl, Nat.and_two_pow_sub_one_eq_mod]
  simp only [rowsB, BitVec.toNat_setWidth, BitVec.extractLsb'_toNat]
  omega

/-- The bus value of R76, bit by bit over its three parts. -/
theorem Pins.busB_showing (p : Byte) {u : Nat} (hu : u < 4) :
    (Pins.showing p u).busB = ((p &&& 0x03) <<< 6 ||| 1#8 <<< (2 + u)) := by
  apply BitVec.eq_of_getLsbD_eq
  intro i hi
  rw [Pins.busB_getLsbD, ← rowsB_setWidth, ← BitVec.twoPow_eq]
  simp only [Pins.showing, onehot_getLsbD hu, BitVec.getLsbD_or, BitVec.getLsbD_twoPow, BitVec.getLsbD_shiftLeft,
    BitVec.getLsbD_setWidth]
  split
  · simp [show i < 6 by omega, show 2 + u ≠ i by omega]
  · split
    · simp [show i < 6 by omega, show 2 + u < 8 by omega, show i - 2 = u ↔ 2 + u = i by omega]
    · simp [show ¬ i < 6 by omega, show 2 + u ≠ i by omega, hi, show i - 6 < 8 by omega]

end Sys2Proof.Machine
end

section
/-! PROOFS. The statements about the state, its reset values and its counters (`10_state.md`). -/

namespace Sys2Proof.Proofs.BlockState

open Sys2Proof.Machine Sys2Proof.Safety Sys2Proof.Certificates

/-- Settles O48: the pass wraps `UNIT`, and `FRAME` against the `FCNT` that the tick keeps. -/
theorem frameReentersItsRangeAtAPass : Obligations.FrameReentersItsRangeAtAPass := by
  intro s hrolls hpass hfcnt
  obtain ⟨-, hunit, hframe⟩ := State.tick_rollover_counters hrolls
  obtain ⟨-, -, hkept, -⟩ := s.tick_frame Config.reference
  refine ⟨_, exec_eq_perform .tick s, hunit.trans (nextUnit_of_last hpass), ?_⟩
  rw [State.perform, hkept, hframe.trans (if_pos hpass)]
  exact nextFrame_lt hfcnt s.frame

/-- Settles O10. -/
theorem blockIsIdleWithoutAnEvent : Obligations.BlockIsIdleWithoutAnEvent := fun _ => step_idle

/-- Settles O13, register by register. -/
theorem stateAfterPowerOn : Obligations.StateAfterPowerOn :=
  ⟨rfl, rfl, rfl, rfl, rfl, rfl, rfl, rfl, Memory.read_zeroed, rfl, rfl, rfl⟩

/-- Settles O26. -/
theorem setmaskKeepsOneBitPerUnit : Obligations.SetmaskKeepsOneBitPerUnit := fun a s =>
  ⟨_, exec_eq_perform (.setmask a) s, maskOperand_toNat a, maskOperand_getLsbD a, rfl⟩

/-- Settles O39, by whether the tick is a unit rollover; the bounds of the invariant leave room for one more. -/
theorem tickAdvancesTheCounters : Obligations.TickAdvancesTheCounters := by
  intro s
  refine ⟨_, exec_eq_perform .tick s, State.tick_rollover_counters, State.tick_between_counters, fun h => ?_⟩
  have hslot : s.slot.toNat < 5 := h.slot_lt
  have hunit : s.unit.toNat < 4 := h.unit_lt
  have hframe := h.frame_le
  exact ⟨toNat_succ (by omega), toNat_succ (by omega), toNat_succ (by omega)⟩

/-- Settles O45. -/
theorem wiringSplitIsExact : Obligations.WiringSplitIsExact := by
  intro p u hu
  exact ⟨rowsA_toNat p, Pins.busB_showing p hu, Pins.rows_showing p u,
    (Pins.busB_getLsbD _ 6).trans (rowsB_getLsbD p (by decide)),
    (Pins.busB_getLsbD _ 7).trans (rowsB_getLsbD p (by decide)),
    fun _ => rowsA_getLsbD p, Pins.lit_showing p hu⟩

/-- Settles O50: the reference system is a legal configuration, and power-on is safe in all of them. -/
theorem resetStateIsSafe : Obligations.ResetStateIsSafe := inv_afterPowerOn reference_legal

end Sys2Proof.Proofs.BlockState
end

section
/-! SUPPORT. What a tick does with the frame buffer (R45, R74): it reads at most the byte of a visible unit it rolls onto,
and shows that byte; and what `FBWR` leaves a tick to find (R103). -/

namespace Sys2Proof.Machine

variable {c : Config} {s : State} {m : Memory}

/-! ## The gate (R73) -/

theorem State.visible_iff : s.visible = true ↔
    s.bao = true ∨ s.nbm.getLsbD s.unit.toNat = true ∨ s.frame.toNat < s.fhi.toNat := by
  simp [State.visible, State.exempt, or_assoc]

/-- The gate of a unit rollover is asked of the counters rolled onto, dark or not. -/
theorem State.advanceUnit_visible (c : Config) (s : State) :
    (s.advanceSlot.dutyClear.advanceUnit c).visible = (s.rolledDark c).visible := by
  obtain ⟨-, hunit, hframe, -, hbao, hfcnt, hfhi, hnbm, -⟩ := s.advanceSlot.dutyClear_frame
  simp [State.visible, State.exempt, State.advanceUnit_eq, State.rolledDark, *]

/-! ## The byte a tick reads (R74) -/

theorem State.dutyClear_with_fb (s : State) (m : Memory) :
    ({ s with fb := m } : State).dutyClear = { s.dutyClear with fb := m } := by
  have h : ({ s with fb := m } : State).dimmed = s.dimmed := rfl
  unfold State.dutyClear
  rw [h]
  split <;> rfl

theorem State.light_with_fb (h : m.read s.unit.toNat = s.fb.read s.unit.toNat) :
    ({ s with fb := m } : State).light = { s.light with fb := m } := by
  simp only [State.light, h]
  rfl

theorem State.lightIfVisible_with_fb (h : s.visible = true → m.read s.unit.toNat = s.fb.read s.unit.toNat) :
    ({ s with fb := m } : State).lightIfVisible = { s.lightIfVisible with fb := m } := by
  have hvisible : ({ s with fb := m } : State).visible = s.visible := rfl
  unfold State.lightIfVisible
  rw [hvisible]
  split
  · exact State.light_with_fb (h ‹_›)
  · rfl

/-- A tick reads no byte of the frame buffer but that of a visible unit it rolls onto. -/
theorem State.tick_with_fb (h : c.slotCount ≤ (s.slot + 1).toNat → (s.rolledDark c).visible = true →
      m.read (nextUnit c s.unit).toNat = s.fb.read (nextUnit c s.unit).toNat) :
    ({ s with fb := m } : State).tick c = { s.tick c with fb := m } := by
  have hclear : ({ s with fb := m } : State).advanceSlot.dutyClear = { s.advanceSlot.dutyClear with fb := m } :=
    s.advanceSlot.dutyClear_with_fb m
  by_cases hroll : c.slotCount ≤ (s.slot + 1).toNat
  · obtain ⟨-, hunit, -, -, -, -, -, -, hfb, -⟩ := s.advanceSlot.dutyClear_frame
    have hlight := State.lightIfVisible_with_fb (s := s.advanceSlot.dutyClear.advanceUnit c) (m := m) (by
      rw [State.advanceUnit_visible]
      simpa [State.advanceUnit_eq, hunit, hfb] using h hroll)
    rw [State.tick_rollover hroll, State.tick_rollover (s := { s with fb := m }) hroll, hclear, ← hlight]
    simp only [State.advanceUnit_eq]
  · rw [State.tick_between hroll, State.tick_between (s := { s with fb := m }) hroll, hclear]

/-- A rollover onto a visible unit shows the unit's byte (R80). -/
theorem State.tick_rollover_pins (hroll : c.slotCount ≤ (s.slot + 1).toNat) (hbright : s.bright.toNat ≤ c.slotCount)
    (hvisible : (s.rolledDark c).visible = true) :
    (s.tick c).pins = Pins.showing (s.fb.read (nextUnit c s.unit).toNat) (nextUnit c s.unit).toNat := by
  rw [State.tick_rollover_dark hroll hbright, State.lightIfVisible, if_pos hvisible]
  exact (s.rolledDark c).light_pins

/-- The counters after a tick depend on the counters and the blink period only. -/
theorem State.tick_counters_congr {t : State} (hslot : t.slot = s.slot) (hunit : t.unit = s.unit)
    (hframe : t.frame = s.frame) (hfcnt : t.fcnt = s.fcnt) :
    (t.tick c).slot = (s.tick c).slot ∧ (t.tick c).unit = (s.tick c).unit ∧ (t.tick c).frame = (s.tick c).frame := by
  by_cases hroll : c.slotCount ≤ (s.slot + 1).toNat
  · have hroll' : c.slotCount ≤ (t.slot + 1).toNat := hslot ▸ hroll
    simp only [State.tick_rollover_counters hroll, State.tick_rollover_counters hroll', hunit, hframe, hfcnt, and_self]
  · have hroll' : ¬ c.slotCount ≤ (t.slot + 1).toNat := hslot ▸ hroll
    simp only [State.tick_between_counters hroll, State.tick_between_counters hroll', hslot, hunit, hframe, and_self]

/-! ## `FBWR` (R101) -/

/-- A byte operand is the operand's low eight bits. -/
theorem byteOperand_eq (b : Int) : byteOperand b = BitVec.ofInt 8 b := by
  apply BitVec.eq_of_toNat_eq
  simp only [byteOperand, BitVec.toNat_ofInt]
  omega

/-- `FBWR` with an index that names a unit. -/
theorem State.fbWrite_unit {a : Nat} (ha : a < c.unitCount) (b : Int) (s : State) : s.fbWrite c a b =
    { s with fb := s.fb.write a (BitVec.ofInt 8 b), responses := s.responses ++ [0x00] } := by
  have hindex : indexOperand c a = some a := if_pos ⟨by omega, by omega⟩
  rw [State.fbWrite, hindex, byteOperand_eq]
  rfl

theorem State.tick_fbWrite_counters {a : Nat} (ha : a < c.unitCount) (b : Int) :
    ((s.fbWrite c a b).tick c).slot = (s.tick c).slot ∧ ((s.fbWrite c a b).tick c).unit = (s.tick c).unit ∧
    ((s.fbWrite c a b).tick c).frame = (s.tick c).frame := by
  rw [State.fbWrite_unit ha]
  exact State.tick_counters_congr rfl rfl rfl rfl

/-- A write to a unit that the tick does not roll onto waits in the buffer: the tick does what it does without it. -/
theorem State.tick_fbWrite_other {a : Nat} (ha : a < c.unitCount) (b : Int)
    (h : ¬ (c.slotCount ≤ (s.slot + 1).toNat ∧ (nextUnit c s.unit).toNat = a)) :
    (s.fbWrite c a b).tick c =
      { s.tick c with fb := s.fb.write a (BitVec.ofInt 8 b), responses := s.responses ++ [0x00] } := by
  have hfb := State.tick_with_fb (c := c) (s := s) (m := s.fb.write a (BitVec.ofInt 8 b)) fun hroll _ =>
    Memory.read_write_other _ _ _ _ fun hunit => h ⟨hroll, hunit⟩
  have hinputs := s.perform_inputs c .tick
  rw [State.fbWrite_unit ha]
  refine (State.tick_with { s with fb := s.fb.write a (BitVec.ofInt 8 b) } c (s.responses ++ [0x00]) s.inputs).trans ?_
  rw [hfb, ← hinputs]
  rfl

/-- A write to a visible unit that the tick rolls onto is what the tick shows. -/
theorem State.tick_fbWrite_shown {a : Nat} (ha : a < c.unitCount) (b : Int) (hwf : s.fb.wf)
    (hbright : s.bright.toNat ≤ c.slotCount) (hroll : c.slotCount ≤ (s.slot + 1).toNat)
    (hunit : (nextUnit c s.unit).toNat = a) (hvisible : (s.rolledDark c).visible = true) :
    ((s.fbWrite c a b).tick c).pins = Pins.showing (BitVec.ofInt 8 b) a := by
  subst hunit
  rw [State.fbWrite_unit ha]
  refine Eq.trans (State.tick_rollover_pins hroll hbright hvisible) ?_
  exact congrArg (Pins.showing · _) (Memory.read_write_same _ _ _ hwf)

end Sys2Proof.Machine
end

section
/-! PROOFS. The statements about the frame buffer under a tick (`20_memory.md`). -/

namespace Sys2Proof.Proofs.BlockMemory

open Sys2Proof.Machine Sys2Proof.Safety Sys2Proof.Certificates

/-- The gate of the statements is that of the state a unit rollover stands in before it lights the unit. -/
theorem rolledDark_visible_iff (s : State) :
    (s.rolledDark Config.reference).visible = true ↔ Gate s (unitAhead s) (frameAhead s) := State.visible_iff

/-- Settles O34. Before the unit's own rollover the tick does not read the byte; at it, the pins take the byte stored. -/
theorem writeShowsAtTheUnitsOwnRollover : Obligations.WriteShowsAtTheUnitsOwnRollover := by
  intro s a b hinv ha
  refine ⟨s.fbWrite Config.reference a b, (s.fbWrite Config.reference a b).tick Config.reference,
    s.tick Config.reference, exec_eq_perform (.fbwr a b) s, exec_eq_perform .tick _, exec_eq_perform .tick s,
    State.tick_fbWrite_counters ha b, fun hother => ?_, fun hroll hunit hgate => ?_⟩
  · rw [State.tick_fbWrite_other ha b hother]
    exact ⟨rfl, rfl⟩
  · exact State.tick_fbWrite_shown ha b hinv.fb_wf hinv.bright_range.2 hroll hunit ((rolledDark_visible_iff s).2 hgate)

/-- Settles O47: the byte asked for is the only one a tick reads. -/
theorem tickReadsOneByteAtMost : Obligations.TickReadsOneByteAtMost := by
  intro s m h
  refine ⟨_, exec_eq_perform .tick s, (exec_eq_perform .tick _).trans (congrArg _ (State.tick_with_fb ?_))⟩
  exact fun hroll hvisible => h hroll ((rolledDark_visible_iff s).1 hvisible)

end Sys2Proof.Proofs.BlockMemory
end

section
/-! SUPPORT. What a word decodes to (R51 to R58 of `30_encoding.md`): the operation of the word's `op` with the word's
fields as operands, for the command port, for written runs and for the opcode table. -/

namespace Sys2Proof

variable {i : Instr} {w : CommandWord}

/-! ## Operands and fields (R52, R55) -/

/-- The operands that a field can hold are the values of fields. -/
theorem eq_toInt_fieldOf {o : Option Int} (h : ∀ v ∈ o, fitsField v) : ∀ v ∈ o, v = (fieldOf o).toInt := by
  rintro v rfl
  exact (toInt_fieldOf (h v rfl)).symm

/-- The field of an operand that was read from a field is that field. -/
theorem fieldOf_eq_of_eq_toInt {o : Option Int} {x : Field} (h : ∀ v ∈ o, v = x.toInt) (ho : o ≠ none) :
    fieldOf o = x := by
  obtain ⟨v, rfl⟩ := Option.ne_none_iff_exists'.1 ho
  rw [h v rfl, fieldOf, Option.getD_some, BitVec.ofInt_toInt]

/-- Every field holds an operand of its width. -/
theorem fitsField_toInt (x : Field) : fitsField x.toInt := ⟨x.le_toInt, x.toInt_lt⟩

@[simp] theorem opField_encode (i : Instr) : opField (encode i) = i.op := opField_wordOf _ _ _

@[simp] theorem aField_encode (i : Instr) : aField (encode i) = fieldOf i.operandA := aField_wordOf _ _ _

@[simp] theorem bField_encode (i : Instr) : bField (encode i) = fieldOf i.operandB := bField_wordOf _ _ _

/-! ## The table (R56) -/

/-- The mnemonics of R56, each at the place of its operation code. -/
def mnemonics : List String :=
  ["TICK", "RESET", "SETBRIGHT", "GETBRIGHT", "SETBLINK", "GETBLINK", "SETHILO", "GETHI", "GETLO", "SETMASK", "GETMASK",
    "FBWR", "FBRD", "FONTGET"]

theorem mnemonics_op (i : Instr) : mnemonics[i.op.toNat]? = some i.mnemonic := by cases i <;> rfl

/-- No mnemonic stands twice in the table, so each has one operation code. -/
theorem op_eq_iff_mnemonic_eq (i j : Instr) : i.op = j.op ↔ i.mnemonic = j.mnemonic := by
  have hi := mnemonics_op i
  have hj := mnemonics_op j
  constructor <;> intro h
  · rw [h, hj] at hi
    exact (Option.some.inj hi).symm
  · obtain ⟨hlt, -⟩ := List.getElem?_eq_some_iff.1 hi
    exact BitVec.eq_of_toNat_eq ((List.getElem?_inj hlt (by decide)).1 (by rw [hi, hj, h]))

theorem Instr.op_eq_zero_iff : i.op = 0x00 ↔ i = .tick := by
  cases i <;> simp [Instr.op]

/-! ## The decoders -/

/-- A command word names the one command of its `op`, with its fields, sign-extended, for operands (R51, R52, R56). -/
theorem decodeCommand_eq_instr_iff : decodeCommand w = .instr i ↔
    i ≠ .tick ∧ opField w = i.op ∧ (∀ a ∈ i.operandA, a = operandOfA w) ∧ ∀ b ∈ i.operandB, b = operandOfB w := by
  constructor
  · intro h
    unfold decodeCommand at h
    split at h
    case h_14 => cases h
    all_goals
      rename_i hop
      cases h
      exact ⟨nofun, BitVec.eq_of_toNat_eq hop, by simp [Instr.operandA], by simp [Instr.operandB]⟩
  · rintro ⟨htick, hop, ha, hb⟩
    cases i
    case tick => exact absurd rfl htick
    all_goals simp_all [decodeCommand, Instr.op, Instr.operandA, Instr.operandB]

/-- A word is a command or is rejected as reserved, by the range of its `op` (R56, R58). -/
theorem decodeCommand_cases (w : CommandWord) :
    ((0x01 ≤ (opField w).toNat ∧ (opField w).toNat ≤ 0x0D) ∧ ∃ i, decodeCommand w = .instr i) ∨
    (¬ (0x01 ≤ (opField w).toNat ∧ (opField w).toNat ≤ 0x0D) ∧
      decodeCommand w = .rejected (.reservedOp (opField w))) := by
  unfold decodeCommand
  split
  case h_14 => exact .inr ⟨by simp only [imp_false] at *; omega, rfl⟩
  all_goals
    rename_i hop
    exact .inl ⟨by omega, _, rfl⟩

theorem decodeCommand_encode (hi : i.WellFormed) (h : i ≠ .tick) : decodeCommand (encode i) = .instr i := by
  obtain ⟨ha, hb⟩ := hi
  refine decodeCommand_eq_instr_iff.2 ⟨h, opField_encode i, ?_, ?_⟩
  · rw [operandOfA, aField_encode]
    exact eq_toInt_fieldOf ha
  · rw [operandOfB, bField_encode]
    exact eq_toInt_fieldOf hb

/-- The two decoders differ on the trace code of `TICK` alone, which names no command (R57). -/
theorem decodeTrace_eq_instr_iff : decodeTrace w = .instr i ↔
    (opField w = 0x00 ∧ i = .tick) ∨ (opField w ≠ 0x00 ∧ decodeCommand w = .instr i) := by
  by_cases h : opField w = 0x00
  · simp [decodeTrace, h, eq_comm]
  · simp only [decodeTrace, h, if_false, false_and, false_or, ne_eq, not_false_eq_true, true_and]

theorem decodeTrace_encode (hi : i.WellFormed) : decodeTrace (encode i) = .instr i := by
  rw [decodeTrace_eq_instr_iff, opField_encode]
  by_cases h : i = .tick
  · exact .inl ⟨Instr.op_eq_zero_iff.2 h, h⟩
  · exact .inr ⟨mt Instr.op_eq_zero_iff.1 h, decodeCommand_encode hi h⟩

/-- A row of the opcode table stands for the operation of its word in a written run. -/
theorem decodeTrace_of_decodeTableWord {nbits n : Nat} (h : decodeTableWord nbits n = some i) :
    decodeTrace (wordOfTable nbits n) = .instr i := by
  unfold decodeTableWord at h
  split at h
  · split at h
    case h_1 hd => rw [hd, Option.some.inj h]
    case h_2 => cases h
  · cases h

end Sys2Proof
end

section
/-! SUPPORT. The step that runs a word (R57, R65 of `30_encoding.md`), and the run of the pseudo-instruction `PUTC` (R61). -/

namespace Sys2Proof.Machine

variable {s : State} {i : Instr} {w : CommandWord} {rest : List Input}

/-- The event of a word of a written run makes the next step run the operation of the word. -/
theorem step_ofTrace (h : s.inputs = Input.ofTrace w :: rest) (hd : decodeTrace w = .instr i) :
    step s = exec i { s with inputs := rest } := by
  rcases decodeTrace_eq_instr_iff.1 hd with ⟨hop, rfl⟩ | ⟨hop, hd⟩
  · exact step_strobe (by rw [h, Input.ofTrace, if_pos hop])
  · exact step_instr (by rw [h, Input.ofTrace, if_neg hop]) hd

/-- The event of an operation runs it, with the later events kept. -/
theorem step_event (hi : i.WellFormed) (h : s.inputs = Script.event i :: rest) :
    step s = .next { s.perform Config.reference i with inputs := rest } := by
  rw [step_ofTrace h (decodeTrace_encode hi), exec_eq_perform, State.perform_with_inputs]

/-- A read after a write gives the byte written at its address and what stood there elsewhere. -/
theorem Memory.read_write {m : Memory} (h : m.wf) (i j : Nat) (b : Byte) :
    (m.write i b).read j = if j = i then b else m.read j := by
  split
  case isTrue hj => rw [hj, read_write_same m i b h]
  case isFalse hj => exact read_write_other m i j b hj

/-- `PUTC` answers the pattern of the character, then stores it. A pattern is a byte, so as an operand it fits its field. -/
theorem run_putc {u : Nat} {f ch : Int} (hu : u < Config.reference.unitCount) (hf : fitsField f) (hch : fitsField ch)
    (h : s.inputs = Script.putc Config.reference u f ch ++ rest) :
    core.run 2 s = .next { s with
      fb := s.fb.write u (fontPattern Config.reference f ch)
      responses := s.responses ++ [fontPattern Config.reference f ch, 0x00]
      inputs := rest } := by
  have hget : (Instr.fontget f ch).WellFormed := ⟨by rintro _ ⟨⟩; exact hf, by rintro _ ⟨⟩; exact hch⟩
  have hput : (Instr.fbwr u (fontPattern Config.reference f ch).toNat).WellFormed := by
    have hunit : u < 4 := hu
    have hbyte := (fontPattern Config.reference f ch).isLt
    exact ⟨by rintro _ ⟨⟩; exact fitsField_iff.2 (by omega), by rintro _ ⟨⟩; exact fitsField_iff.2 (by omega)⟩
  rw [run_succ 1 (step_event hget h), run_succ 0 (step_event hput rfl), State.perform, State.fbWrite_unit hu]
  simp [State.perform, Host.Core.run]

end Sys2Proof.Machine
end

section
/-! PROOFS. The statements about the command word, its decoder and the step that runs a word (`30_encoding.md`). -/

namespace Sys2Proof.Proofs.Encoding

open Sys2Proof.Machine

/-- Settles O1. -/
theorem decodeReadsBackEncode : Obligations.DecodeReadsBackEncode := fun _ hi =>
  ⟨decodeTrace_encode hi, decodeCommand_encode hi⟩

/-- Settles O2, by the range of `op`; the second part by the table of mnemonics. -/
theorem everyWordIsCommandOrReserved : Obligations.EveryWordIsCommandOrReserved := by
  refine ⟨fun w => ?_, op_eq_iff_mnemonic_eq⟩
  rcases decodeCommand_cases w with ⟨hrange, i, hd⟩ | ⟨hrange, hd⟩
  · obtain ⟨htick, hop, -⟩ := decodeCommand_eq_instr_iff.1 hd
    rw [if_pos hrange]
    exact ⟨i, hd, hop.symm, htick⟩
  · rwa [if_neg hrange]

/-- Settles O3: an operation has an operand only where it uses the field. -/
theorem unusedFieldsAreIgnored : Obligations.UnusedFieldsAreIgnored := by
  refine ⟨fun v w i hd hopw haw hbw => ?_, fun i => ⟨fun ha => ?_, fun hb => ?_⟩⟩
  · obtain ⟨htick, hop, ha, hb⟩ := decodeCommand_eq_instr_iff.1 hd
    refine decodeCommand_eq_instr_iff.2 ⟨htick, hopw.trans hop, fun x hx => ?_, fun x hx => ?_⟩
    · rw [operandOfA, haw (Option.ne_none_iff_exists'.2 ⟨x, hx⟩)]
      exact ha x hx
    · rw [operandOfB, hbw (Option.ne_none_iff_exists'.2 ⟨x, hx⟩)]
      exact hb x hx
  · rw [aField_encode, ha]
    rfl
  · rw [bField_encode, hb]
    rfl

/-- Settles O4: the operands of a decoded command are values of fields. -/
theorem encodeWritesBackDecode : Obligations.EncodeWritesBackDecode := by
  intro w i hd
  obtain ⟨-, hop, ha, hb⟩ := decodeCommand_eq_instr_iff.1 hd
  refine ⟨⟨fun x hx => ?_, fun x hx => ?_⟩, ?_, fun h => ?_, fun h => ?_⟩
  · rw [ha x hx]
    exact fitsField_toInt _
  · rw [hb x hx]
    exact fitsField_toInt _
  · rw [opField_encode, hop]
  · rw [aField_encode, fieldOf_eq_of_eq_toInt ha h]
  · rw [bField_encode, fieldOf_eq_of_eq_toInt hb h]

/-- Settles O8: the event of the word is presented before every other. -/
theorem stepRunsThePresentedTableWord : Obligations.StepRunsThePresentedTableWord := fun _ _ _ h =>
  step_ofTrace rfl (decodeTrace_of_decodeTableWord h)

/-- Settles O38, by the run of `PUTC` and a read after its write. -/
theorem putcStoresThePatternOfTheCharacter : Obligations.PutcStoresThePatternOfTheCharacter := by
  intro i f c s rest hi hf hc hwf hinputs
  exact ⟨_, fontPattern Config.reference f c, exec_eq_perform (.fontget f c) s, run_putc hi hf hc hinputs,
    fun j => Memory.read_write hwf i j _, rfl⟩

/-- Settles O5, row by row of the table. -/
theorem operandsAreSignExtendedFields : Obligations.OperandsAreSignExtendedFields := by
  intro a b
  have ha (op : Byte) : operandOfA (op ++ a ++ b) = a.toInt := congrArg _ (aField_wordOf op a b)
  have hb (op : Byte) : operandOfB (op ++ a ++ b) = b.toInt := congrArg _ (bField_wordOf op a b)
  refine ⟨?_, ?_, ?_, ?_, ?_, ?_, ?_, ?_, ?_, ?_, ?_, ?_, ?_⟩
  all_goals
    refine decodeCommand_eq_instr_iff.2 ⟨nofun, opField_wordOf _ a b, ?_, ?_⟩
    · simp [Instr.operandA, ha]
    · simp [Instr.operandB, hb]

/-- Settles O6, by evaluation. -/
theorem workedEncodingsDecode : Obligations.WorkedEncodingsDecode :=
  ⟨by decide, by decide, by decide, by decide, by decide, by decide, by decide⟩

/-- Settles O9: a word with such an `op` is no command. -/
theorem reservedWordChangesNothing : Obligations.ReservedWordChangesNothing := by
  intro s w rest h hop
  rcases decodeCommand_cases w with ⟨hrange, -⟩ | ⟨-, hd⟩
  · rcases hop with hzero | hhigh
    · simp [hzero] at hrange
    · omega
  · exact step_rejected h hd

end Sys2Proof.Proofs.Encoding
end

section
/-! SUPPORT. What a tick keeps for the foreground (R67, R120), and any number of ticks with it. -/

namespace Sys2Proof.Certificates

open Sys2Proof.Machine

variable {s t : State}

theorem SameForeground.refl (s : State) : SameForeground s s := ⟨rfl, rfl, rfl, rfl, rfl, rfl, rfl, rfl⟩

/-- Two states with the same foreground differ in the counters, the ports and the trace at most. -/
theorem SameForeground.eq_with (h : SameForeground s t) : s =
    { t with slot := s.slot, unit := s.unit, frame := s.frame, outA := s.outA, outRows := s.outRows,
             outSelect := s.outSelect, trace := s.trace } := by
  cases s
  cases t
  simpa [SameForeground, and_assoc] using h

theorem SameForeground.symm (h : SameForeground s t) : SameForeground t s := by
  rw [h.eq_with]
  exact .refl t

theorem SameForeground.trans {u : State} (h : SameForeground s t) (h' : SameForeground t u) : SameForeground s u := by
  rw [h.eq_with]
  exact h'

/-- A tick changes nothing of the foreground. -/
theorem sameForeground_tick (c : Config) (s : State) : SameForeground (s.tick c) s := s.tick_frame c

theorem sameForeground_ticks (c : Config) (n : Nat) (s : State) : SameForeground (s.ticks c n) s := by
  induction n with
  | zero => exact .refl s
  | succ n ih =>
    rw [State.ticks_succ]
    exact (sameForeground_tick c _).trans ih

end Sys2Proof.Certificates
end

section
/-! SUPPORT. Any number of ticks keeps the invariants of R32. -/

namespace Sys2Proof.Safety

open Sys2Proof.Machine

theorem Inv.ticks {c : Config} {s : State} (hc : c.Legal) (h : Inv c s) (n : Nat) : Inv c (s.ticks c n) := by
  induction n with
  | zero => exact h
  | succ n ih =>
    rw [State.ticks_succ]
    exact ih.tick hc

end Sys2Proof.Safety
end

section
/-! SUPPORT. The counters and the display in closed form under ticks alone (R70, R82 of `40_tick.md`). -/

namespace Sys2Proof.Machine

open Sys2Proof.Safety

variable {c : Config} {s : State}

/-! ## Counting with a bound -/

theorem succ_div_mod_of_wrap {k m : Nat} (h : k % m + 1 = m) : (k + 1) / m = k / m + 1 ∧ (k + 1) % m = 0 := by
  have hk := Nat.mod_add_div k m
  exact (Nat.div_mod_unique (by omega)).2 ⟨by rw [Nat.mul_add]; omega, by omega⟩

theorem succ_div_mod_of_lt {k m : Nat} (h : k % m + 1 < m) : (k + 1) / m = k / m ∧ (k + 1) % m = k % m + 1 := by
  have hk := Nat.mod_add_div k m
  exact (Nat.div_mod_unique (by omega)).2 ⟨by omega, h⟩

/-- A counter below its bound either reaches the bound with the next count or counts on below it. -/
theorem wraps_cases {x : Byte} {k m : Nat} (hm : 1 ≤ m ∧ m ≤ 255) (h : x.toNat = k % m) :
    (m ≤ (x + 1).toNat ∧ (k + 1) / m = k / m + 1 ∧ (k + 1) % m = 0) ∨
    (¬ m ≤ (x + 1).toNat ∧ (k + 1) / m = k / m ∧ (k + 1) % m = (x + 1).toNat) := by
  have hlt := Nat.mod_lt k hm.1
  rw [toNat_succ (by omega), h]
  rcases Nat.lt_or_eq_of_le (Nat.succ_le_of_lt hlt) with hon | hwrap
  · exact .inr ⟨by omega, succ_div_mod_of_lt hon⟩
  · exact .inl ⟨by omega, succ_div_mod_of_wrap hwrap⟩

theorem nextUnit_toNat (hc : c.Legal) {unit : Byte} {k : Nat} (h : unit.toNat = k % c.unitCount) :
    (nextUnit c unit).toNat = (k + 1) % c.unitCount := by
  have hunits := hc.unitCount_range
  unfold nextUnit
  rcases wraps_cases ⟨hunits.1, by omega⟩ h with ⟨hwrap, -, hmod⟩ | ⟨hon, -, hmod⟩
  · rw [if_pos hwrap, hmod]
    rfl
  · rw [if_neg hon, hmod]

theorem nextFrame_toNat {fcnt frame : Byte} (hf : 1 ≤ fcnt.toNat) {k : Nat} (h : frame.toNat = k % fcnt.toNat) :
    (nextFrame fcnt frame).toNat = (k + 1) % fcnt.toNat := by
  unfold nextFrame
  rcases wraps_cases ⟨hf, by omega⟩ h with ⟨hwrap, -, hmod⟩ | ⟨hon, -, hmod⟩
  · rw [if_pos hwrap, hmod]
    rfl
  · rw [if_neg hon, hmod]

/-! ## The display within a dwell (R70, R80) -/

/-- What the pins show in the dwell of `UNIT`: its byte while `SLOT` is below the duty bound and the unit is visible. -/
def State.dwellPins (s : State) : Pins :=
  if s.slot.toNat < s.bright.toNat ∧ s.visible = true then Pins.showing (s.fb.read s.unit.toNat) s.unit.toNat
  else Pins.cleared

/-- A unit rollover starts the dwell of the unit rolled onto. -/
theorem State.tick_rollover_dwell (hroll : c.slotCount ≤ (s.slot + 1).toNat)
    (hbright : 1 ≤ s.bright.toNat ∧ s.bright.toNat ≤ c.slotCount) : (s.tick c).pins = (s.tick c).dwellPins := by
  rw [State.tick_rollover_dark hroll hbright.2]
  rcases (s.rolledDark c).lightIfVisible_cases with ⟨hvisible, e⟩ | ⟨hdark, e⟩ <;> rw [e]
  · exact (if_pos ⟨hbright.1, hvisible⟩).symm
  · exact (if_neg fun h => Bool.eq_false_iff.1 hdark h.2).symm

/-- Any other tick stays in the dwell: the display goes dark at the duty bound. -/
theorem State.tick_between_dwell (hroll : ¬ c.slotCount ≤ (s.slot + 1).toNat) (hslot : s.slot.toNat < 255)
    (h : s.pins = s.dwellPins) : (s.tick c).pins = (s.tick c).dwellPins := by
  rw [State.tick_between hroll]
  rcases Nat.lt_or_ge (s.slot + 1).toNat s.bright.toNat with hbelow | habove
  · have hbefore : s.slot.toNat < s.bright.toNat := by rw [toNat_succ hslot] at hbelow; omega
    have hkept : s.advanceSlot.dwellPins = s.dwellPins :=
      if_congr (and_congr_left fun _ => iff_of_true hbelow hbefore) rfl rfl
    rw [State.dutyClear_bright hbelow, hkept]
    exact h
  · rw [State.dutyClear_dim habove]
    exact (if_neg fun h => Nat.not_lt.2 habove h.1).symm

/-! ## The schedule (R82) -/

/-- `n` ticks after a tick that left `SLOT` and `UNIT` at 0 and `FRAME` at `f`. -/
structure OnSchedule (c : Config) (f n : Nat) (s : State) : Prop where
  slot : s.slot.toNat = n % c.slotCount
  unit : s.unit.toNat = n / c.slotCount % c.unitCount
  frame : s.frame.toNat = (f + n / c.slotCount / c.unitCount) % s.fcnt.toNat
  pins : s.pins = s.dwellPins

/-- The first tick after the counters were preset is a frame rollover (R135). -/
theorem onSchedule_first (hc : c.Legal) (hinv : Inv c s) (hpreset : CountersPreset c s) (hframe : s.frame.toNat = 49) :
    OnSchedule c (if s.fcnt.toNat ≤ 50 then 0 else 50) 0 (s.tick c) := by
  have hslots := hc.slotCount_range
  have hunits := hc.unitCount_range
  have hroll : c.slotCount ≤ (s.slot + 1).toNat := by rw [toNat_succ] <;> omega
  have hpass : c.unitCount ≤ (s.unit + 1).toNat := by rw [toNat_succ] <;> omega
  obtain ⟨hslot, hunit, hnext⟩ := State.tick_rollover_counters hroll
  obtain ⟨-, -, hfcnt, -⟩ := s.tick_frame c
  refine ⟨by simp [hslot], by simp [hunit, nextUnit_of_last hpass], ?_,
    State.tick_rollover_dwell hroll hinv.bright_range⟩
  rw [hfcnt, hnext, if_pos hpass, nextFrame, toNat_succ (by omega), hframe]
  split
  · simp
  · rw [toNat_succ (by omega), hframe, Nat.zero_div, Nat.zero_div, Nat.mod_eq_of_lt (by omega)]

theorem OnSchedule.tick {f n : Nat} (hc : c.Legal) (hinv : Inv c s) (h : OnSchedule c f n s) :
    OnSchedule c f (n + 1) (s.tick c) := by
  have hslots := hc.slotCount_range
  have hunits := hc.unitCount_range
  have hfcnt : 1 ≤ s.fcnt.toNat := by have := hinv.blink_range; omega
  obtain ⟨-, -, hkept, -⟩ := s.tick_frame c
  rcases wraps_cases ⟨by omega, hslots.2⟩ h.slot with ⟨hroll, hdiv, hmod⟩ | ⟨hroll, hdiv, hmod⟩
  · obtain ⟨hslot, hunit, hframe⟩ := State.tick_rollover_counters hroll
    refine ⟨by simp [hslot, hmod], by rw [hunit, hdiv, nextUnit_toNat hc h.unit], ?_,
      State.tick_rollover_dwell hroll hinv.bright_range⟩
    rw [hkept, hframe, hdiv]
    rcases wraps_cases ⟨hunits.1, by omega⟩ h.unit with ⟨hpass, hdiv, -⟩ | ⟨hpass, hdiv, -⟩
    · rw [if_pos hpass, nextFrame_toNat hfcnt h.frame, hdiv, Nat.add_assoc]
    · rw [if_neg hpass, h.frame, hdiv]
  · obtain ⟨hslot, hunit, hframe⟩ := State.tick_between_counters hroll
    exact ⟨by rw [hslot, hmod], by rw [hunit, hdiv, h.unit], by rw [hkept, hframe, hdiv, h.frame],
      State.tick_between_dwell hroll (by have := hinv.slot_lt; omega) h.pins⟩

theorem onSchedule_ticks (hc : c.Legal) (hinv : Inv c s) (hpreset : CountersPreset c s) (hframe : s.frame.toNat = 49)
    (n : Nat) : OnSchedule c (if s.fcnt.toNat ≤ 50 then 0 else 50) n (s.ticks c (n + 1)) := by
  induction n with
  | zero => exact onSchedule_first hc hinv hpreset hframe
  | succ n ih =>
    rw [State.ticks_succ]
    exact ih.tick hc (hinv.ticks hc (n + 1))

end Sys2Proof.Machine
end

section
/-! SUPPORT. What one event does, and that the foreground after it depends on the foreground before it only
(R119, R120). -/

namespace Sys2Proof.Machine

open Sys2Proof.Certificates

variable {s t : State}

/-- What an event does to the block (R11). -/
def State.receive (s : State) : Input → State
  | .strobe => s.tick Config.reference
  | .powerOn => s.powerOn Config.reference
  | .command w =>
    match decodeCommand w with
    | .instr i => s.perform Config.reference i
    | .rejected _ => s.reservedWord

theorem State.receive_instr {w : CommandWord} {i : Instr} (hd : decodeCommand w = .instr i) :
    s.receive (.command w) = s.perform Config.reference i := by
  rw [State.receive, hd]

theorem State.receive_rejected {w : CommandWord} {why : Rejection} (hd : decodeCommand w = .rejected why) :
    s.receive (.command w) = s.reservedWord := by
  rw [State.receive, hd]

/-- A step takes the next event off the events to come and does what it does. -/
theorem step_receive {e : Input} {rest : List Input} (h : s.inputs = e :: rest) :
    step s = .next (({ s with inputs := rest } : State).receive e) := by
  cases e with
  | strobe => exact (step_strobe h).trans (exec_eq_perform .tick _)
  | powerOn => exact step_powerOn h
  | command w =>
    cases hd : decodeCommand w with
    | instr i => rw [step_instr h hd, exec_eq_perform, State.receive_instr hd]
    | rejected why => rw [step_rejected h hd, State.receive_rejected hd]

/-- No event reads or writes the events to come. -/
theorem State.receive_with_inputs (s : State) (e : Input) (es : List Input) :
    ({ s with inputs := es } : State).receive e = { s.receive e with inputs := es } := by
  cases e with
  | strobe => exact State.tick_with_inputs _ s es
  | powerOn => rfl
  | command w =>
    cases hd : decodeCommand w with
    | instr i => rw [State.receive_instr hd, State.receive_instr hd, State.perform_with_inputs]
    | rejected why =>
      rw [State.receive_rejected hd, State.receive_rejected hd]
      rfl

/-- A run of a list of events starts with what its first event does. -/
theorem run_receive (s : State) (e : Input) (es : List Input) :
    core.run (e :: es).length { s with inputs := e :: es } = core.run es.length { s.receive e with inputs := es } := by
  rw [← State.receive_with_inputs]
  exact run_succ es.length (step_receive rfl)

/-- No command reads a counter, a port or the trace, and a tick keeps the foreground. -/
theorem sameForeground_perform (c : Config) (i : Instr) (h : SameForeground s t) :
    SameForeground (s.perform c i) (t.perform c i) := by
  cases i with
  | tick => exact (sameForeground_tick c s).trans (h.trans (sameForeground_tick c t).symm)
  | fbwr a b =>
    rw [h.eq_with]
    simp only [State.perform, State.fbWrite]
    split <;> exact .refl _
  | _ =>
    rw [h.eq_with]
    exact .refl _

theorem sameForeground_receive (e : Input) (h : SameForeground s t) : SameForeground (s.receive e) (t.receive e) := by
  cases e with
  | strobe => exact sameForeground_perform _ .tick h
  | powerOn =>
    rw [h.eq_with]
    exact .refl _
  | command w =>
    cases hd : decodeCommand w with
    | instr i =>
      rw [State.receive_instr hd, State.receive_instr hd]
      exact sameForeground_perform _ i h
    | rejected why =>
      rw [State.receive_rejected hd, State.receive_rejected hd, h.eq_with]
      exact .refl t.reservedWord

/-- Two runs that start with the same foreground, one of them without the strobes, end with the same foreground. -/
theorem run_without_strobes (es : List Input) (h : SameForeground s t) :
    ∃ s' t', core.run es.length { s with inputs := es } = .next s' ∧
      core.run (es.filter (· ≠ .strobe)).length { t with inputs := es.filter (· ≠ .strobe) } = .next t' ∧
      SameForeground s' t' := by
  induction es generalizing s t with
  | nil =>
    rw [h.eq_with]
    exact ⟨_, _, rfl, rfl, .refl _⟩
  | cons e es ih =>
    rw [run_receive]
    by_cases he : e = .strobe
    · subst he
      exact ih ((sameForeground_tick _ s).trans h)
    · rw [List.filter_cons_of_pos (by simpa using he), run_receive]
      exact ih (sameForeground_receive e h)

end Sys2Proof.Machine
end

section
/-! SUPPORT. A setter, ticks, then its getters (R96 of `41_config.md`). -/

namespace Sys2Proof.Machine

open Sys2Proof.Certificates

theorem clamp_eq_nearest (v : Int) {lo hi : Int} (h : lo ≤ hi) : clamp v lo hi = nearest v lo hi := by
  unfold clamp nearest
  split
  · omega
  · split <;> omega

theorem dutyOperand_reference (old : Byte) (a : Int) :
    dutyOperand Config.reference old a = BitVec.ofInt 8 (nearest a 1 Config.reference.slotCount) :=
  congrArg (BitVec.ofInt 8) (clamp_eq_nearest a (by decide))

theorem framesOperand_eq_nearest (a : Int) : framesOperand a = nearest a 1 254 := clamp_eq_nearest a (by decide)

theorem periodOperand_eq_nearest (a b : Int) : periodOperand a b = min 255 (nearest a 1 254 + nearest b 1 254) := by
  rw [periodOperand, framesOperand_eq_nearest, framesOperand_eq_nearest]

/-- The difference of two stored integers is their difference, stored: `GETLO` after `SETHILO` (R93). -/
theorem ofInt_sub_ofInt {w : Nat} (x y : Int) : BitVec.ofInt w x - BitVec.ofInt w y = BitVec.ofInt w (x - y) := by
  rw [Int.sub_eq_add_neg, BitVec.ofInt_add, BitVec.ofInt_neg, BitVec.sub_eq_add_neg]

theorem boolResponse_boolOperand (a : Int) : boolResponse (boolOperand a) = if a = 0 then 0x00 else 0x01 := by
  by_cases h : a = 0 <;> simp [boolResponse, boolOperand, h]

theorem execAll_ticks (n : Nat) (is : List Instr) (s : State) :
    execAll (List.replicate n .tick ++ is) s = execAll is (s.ticks Config.reference n) := by
  induction n generalizing s with
  | zero => rfl
  | succ n ih =>
    rw [List.replicate_succ, List.cons_append, execAll_cons]
    exact ih _

/-- An operation, ticks, then more operations. -/
theorem execAll_cons_ticks (i : Instr) (n : Nat) (is : List Instr) (s : State) :
    execAll (i :: List.replicate n .tick ++ is) s =
      execAll is ((s.perform Config.reference i).ticks Config.reference n) := by
  rw [List.cons_append, execAll_cons, execAll_ticks]

end Sys2Proof.Machine
end

section
/-! SUPPORT. The port writes of a tick (R69, R77 to R79, R139 of `40_tick.md`). -/

namespace Sys2Proof.Machine

variable {c : Config} {s : State}

/-- The clear of both ports, and the two writes it adds to the trace. -/
theorem State.makeDark_eq (s : State) : s.makeDark =
    { s with outA := 0, outRows := 0, outSelect := 0, trace := s.trace ++ [.portB 0 0, .portA 0] } := by
  simp [State.makeDark, State.writePortA, State.writePortB]

theorem State.light_eq (s : State) : s.light =
    { s with
      outA := rowsA (s.fb.read s.unit.toNat)
      outRows := rowsB (s.fb.read s.unit.toNat)
      outSelect := onehot s.unit.toNat
      trace := s.trace ++ [.portA (rowsA (s.fb.read s.unit.toNat)),
        .portB (rowsB (s.fb.read s.unit.toNat)) (onehot s.unit.toNat)] } := by
  simp [State.light, State.writePortA, State.writePortB]

/-- The port writes of step 2 (R69). -/
def State.clearWrites (s : State) : List PortWrite :=
  if s.bright.toNat ≤ (s.slot + 1).toNat then [.portB 0 0, .portA 0] else []

/-- The port writes of lighting unit `u` with pattern `p` (R77). -/
def lightWrites (p : Byte) (u : Nat) : List PortWrite := [.portA (rowsA p), .portB (rowsB p) (onehot u)]

theorem State.dutyClear_trace (s : State) : s.advanceSlot.dutyClear.trace = s.trace ++ s.clearWrites := by
  unfold State.clearWrites
  split
  case isTrue h => rw [State.dutyClear_dim h, State.makeDark_trace, State.advanceSlot_trace]
  case isFalse h => rw [State.dutyClear_bright (Nat.not_le.1 h), State.advanceSlot_trace, List.append_nil]

theorem State.tick_between_trace (h : ¬ c.slotCount ≤ (s.slot + 1).toNat) :
    (s.tick c).trace = s.trace ++ s.clearWrites := by
  rw [State.tick_between h, State.dutyClear_trace]

/-- A unit rollover clears first, then lights the unit rolled onto or leaves it. -/
theorem State.tick_rollover_trace (h : c.slotCount ≤ (s.slot + 1).toNat) :
    (s.tick c).trace = s.trace ++ s.clearWrites ∨
    (s.tick c).trace = s.trace ++ s.clearWrites ++
      lightWrites (s.fb.read (nextUnit c s.unit).toNat) (nextUnit c s.unit).toNat := by
  obtain ⟨-, hunit, -, -, -, -, -, -, hfb, -⟩ := s.advanceSlot.dutyClear_frame
  rw [State.tick_rollover h, ← State.dutyClear_trace]
  rcases (s.advanceSlot.dutyClear.advanceUnit c).lightIfVisible_cases with ⟨-, e⟩ | ⟨-, e⟩ <;> rw [e]
  · right
    simp [State.advanceUnit_eq, lightWrites, hunit, hfb]
  · left
    rw [State.advanceUnit_eq]

/-- `P` holds of the pins after each of a list of port writes. -/
def Pins.Throughout (P : Pins → Prop) : Pins → List PortWrite → Prop
  | _, [] => True
  | p, w :: ws => P (p.after w) ∧ Pins.Throughout P (p.after w) ws

/-- So it holds after any number, not 0, of the first of them. -/
theorem Pins.Throughout.replay {P : Pins → Prop} {p : Pins} {shown rest : List PortWrite}
    (h : p.Throughout P (shown ++ rest)) (hne : shown ≠ []) : P (p.replay shown) := by
  induction shown generalizing p with
  | nil => exact absurd rfl hne
  | cons w later ih =>
    obtain ⟨hfirst, hlater⟩ := h
    by_cases hnil : later = []
    · rw [hnil]
      exact hfirst
    · exact ih (p := p.after w) hlater hnil

end Sys2Proof.Machine
end

section
/-! SUPPORT. A tick shows the pattern of one unit only, at every point of its port writes (R78, R139). -/

namespace Sys2Proof.Safety

open Sys2Proof.Machine

variable {c : Config} {s : State}

/-- Between two states with the invariants the port writes in between lead from the pins to the pins. -/
theorem Inv.pins_of_trace {t : State} {ws : List PortWrite} (hs : Inv c s) (ht : Inv c t)
    (h : t.trace = s.trace ++ ws) : t.pins = s.pins.replay ws := by
  rw [ht.ports_traced, h, replay_append, ← hs.ports_traced]

/-- The clear takes the select lines first. -/
theorem throughout_clearWrites (s : State) (p : Pins) (u : Nat) (b : Byte) :
    p.Throughout (ShowsOnly · u b) s.clearWrites := by
  unfold State.clearWrites
  split
  · exact ⟨.inl rfl, .inl rfl, trivial⟩
  · trivial

/-- Lighting a unit after a clear selects it last, with its pattern already on the row lines. -/
theorem throughout_clear_then_light (p : Pins) (u : Nat) (b : Byte) :
    p.Throughout (ShowsOnly · u b) ([.portB 0 0, .portA 0] ++ lightWrites b u) :=
  ⟨.inl rfl, .inl rfl, .inl rfl, .inr rfl, trivial⟩

theorem Inv.tick_shows_only (h : Inv c s) : ∃ ws, (s.tick c).trace = s.trace ++ ws ∧
    s.pins.Throughout (ShowsOnly · (s.tick c).unit.toNat (s.fb.read (s.tick c).unit.toNat)) ws := by
  by_cases hroll : c.slotCount ≤ (s.slot + 1).toNat
  · rcases State.tick_rollover_trace hroll with htrace | htrace
    · exact ⟨_, htrace, throughout_clearWrites s _ _ _⟩
    · obtain ⟨-, hunit, -⟩ := State.tick_rollover_counters hroll
      have hclear : s.clearWrites = [.portB 0 0, .portA 0] := if_pos (h.bright_range.2.trans hroll)
      rw [List.append_assoc, hclear] at htrace
      rw [hunit]
      exact ⟨_, htrace, throughout_clear_then_light _ _ _⟩
  · exact ⟨_, State.tick_between_trace hroll, throughout_clearWrites s _ _ _⟩

end Sys2Proof.Safety
end

section
/-! PROOFS. The statements about the tick (`40_tick.md`). -/

namespace Sys2Proof.Proofs.Tick

open Sys2Proof.Machine Sys2Proof.Safety Sys2Proof.Certificates

/-- Settles O53: the schedule, with the settings that the ticks keep. -/
theorem steadyStateSchedule : Obligations.SteadyStateSchedule := by
  rintro c s hc hinv hslot hunit hframe n r rfl
  have hsched := onSchedule_ticks hc hinv ⟨hslot, hunit⟩ hframe n
  obtain ⟨hbright, hbao, hfcnt, hfhi, hnbm, hfb, -⟩ := sameForeground_ticks c (n + 1) s
  have hpins := hsched.pins
  simp only [State.dwellPins, State.visible_iff, hbright, hbao, hfhi, hnbm, hfb] at hpins
  refine ⟨hsched.slot, hsched.unit, ?_, fun hlit hgate => hpins.trans (if_pos ⟨hlit, hgate⟩),
    fun hdark => hpins.trans (if_neg hdark)⟩
  rw [hsched.frame, hfcnt, Nat.div_div_eq_div_mul]

/-- After power-on with a blink period of 100: the premises of `SteadyStateSchedule`, and `FRAME` starting from 50. -/
theorem witness_SteadyStateSchedule_long_period :
    Inv Config.reference { State.reset with fcnt := 100 } ∧
    CountersPreset Config.reference { State.reset with fcnt := 100 } ∧ State.reset.frame.toNat = 49 ∧
    (State.ticks Config.reference 1 { State.reset with fcnt := 100 }).frame = 50 :=
  ⟨{ inv_afterPowerOn reference_legal with blink_range := by decide }, by decide, by decide, by decide⟩

/-- Settles O56, by induction on the events: a strobe keeps the foreground, every other event does the same to both. -/
theorem strobesChangeNoAnswer : Obligations.StrobesChangeNoAnswer := fun es s => run_without_strobes es (.refl s)

/-- Settles O29: each getter answers a register of the state after the ticks, which is that of the state before them. -/
theorem settingsSurviveTicks : Obligations.SettingsSurviveTicks := by
  intro n s a b
  simp only [execAll_cons_ticks, execAll_cons]
  refine ⟨⟨_, rfl, ?_⟩, ⟨_, rfl, ?_⟩, ⟨_, rfl, ?_⟩, ⟨_, rfl, ?_⟩⟩
  · obtain ⟨hbright, -, -, -, -, -, hresponses, -⟩ :=
      sameForeground_ticks Config.reference n (s.setBright Config.reference a)
    simp [State.perform, hbright, hresponses, dutyOperand_reference]
  · obtain ⟨-, hbao, -, -, -, -, hresponses, -⟩ := sameForeground_ticks Config.reference n (s.setBlink a)
    simp [State.perform, hbao, hresponses, boolResponse_boolOperand]
  · obtain ⟨-, -, hfcnt, hfhi, -, -, hresponses, -⟩ := sameForeground_ticks Config.reference n (s.setHiLo a b)
    simp [State.perform, hfcnt, hfhi, hresponses, periodOperand_eq_nearest, framesOperand_eq_nearest, ofInt_sub_ofInt]
  · obtain ⟨-, -, -, -, hnbm, -, hresponses, -⟩ :=
      sameForeground_ticks Config.reference n (s.setMask Config.reference a)
    simp [State.perform, hnbm, hresponses, maskOperand, maskResponse]

/-- Settles O41: the trace of a tick is that of its clear, and of lighting the unit after a unit rollover at most. -/
theorem tickClearsAtTheDutyBound : Obligations.TickClearsAtTheDutyBound := by
  intro s
  by_cases hroll : rollsOver s
  · rcases State.tick_rollover_trace hroll with htrace | htrace
    · exact ⟨_, [], exec_eq_perform .tick s, by rwa [List.append_nil], fun _ => rfl, fun _ => .inl rfl⟩
    · exact ⟨_, _, exec_eq_perform .tick s, htrace, absurd hroll, fun _ => .inr ⟨_, rfl⟩⟩
  · exact ⟨_, [], exec_eq_perform .tick s, by rw [List.append_nil]; exact State.tick_between_trace hroll,
      fun _ => rfl, fun h => absurd h hroll⟩

/-- Settles O42: such a tick is steps 1 and 2 only. -/
theorem tickBetweenRolloversNeverLights : Obligations.TickBetweenRolloversNeverLights := by
  intro s hroll
  refine ⟨fun hdim => ?_, fun hbright => ?_⟩ <;> rw [exec_eq_perform, State.perform, State.tick_between hroll]
  · rw [State.dutyClear_dim hdim, State.makeDark_eq]
    rfl
  · rw [State.dutyClear_bright hbright]
    rfl

/-- Settles O43: the unit is dark, then lit. -/
theorem rolloverLightsAVisibleUnit : Obligations.RolloverLightsAVisibleUnit := by
  rintro s hroll hbright hgate p rfl
  have hvisible := (BlockMemory.rolledDark_visible_iff s).2 hgate
  rw [exec_eq_perform, State.perform, State.tick_rollover_dark hroll hbright, State.lightIfVisible, if_pos hvisible,
    State.light_eq, State.rolledDark, List.append_assoc]
  rfl

/-- Settles O44: the unit is dark and stays so. -/
theorem rolloverLeavesAHiddenUnitDark : Obligations.RolloverLeavesAHiddenUnitDark := by
  intro s hroll hbright hgate
  have hhidden := mt (BlockMemory.rolledDark_visible_iff s).1 hgate
  rw [exec_eq_perform, State.perform, State.tick_rollover_dark hroll hbright, State.lightIfVisible, if_neg hhidden]
  rfl

/-- Settles O46: what holds throughout the port writes holds after any number of the first of them. -/
theorem noUnitShowsAnothersPattern : Obligations.NoUnitShowsAnothersPattern := by
  intro s hinv
  obtain ⟨ws, htrace, hshows⟩ := hinv.tick_shows_only
  refine ⟨_, ws, exec_eq_perform .tick s, htrace, hinv.pins_of_trace (hinv.tick reference_legal) htrace, ?_⟩
  rintro shown ⟨rest, rfl⟩ hne
  exact hshows.replay hne

/-- Settles O49: the period is at most `FRAME`, so the blinking unit is not in its visible part. -/
theorem shrunkPeriodHidesBlinkingUnits : Obligations.ShrunkPeriodHidesBlinkingUnits := by
  intro s hinv hroll hpass hshrunk hbao hblink
  have hframe : frameAhead s = s.frame := if_neg hpass
  have hhidden : ¬ Gate s (unitAhead s) (frameAhead s) := by
    rintro (h | h | h)
    · exact absurd (hbao.symm.trans h) Bool.false_ne_true
    · exact absurd (hblink.symm.trans h) Bool.false_ne_true
    · have := hinv.blink_range
      rw [hframe] at h
      omega
  exact ⟨_, rolloverLeavesAHiddenUnitDark s hroll hinv.bright_range.2 hhidden, hframe, rfl⟩

/-- Settles O40: a tick keeps the foreground, so it changes the rest at most. -/
theorem tickWritesNoSetting : Obligations.TickWritesNoSetting := fun s =>
  ⟨_, exec_eq_perform .tick s, (sameForeground_tick _ s).eq_with⟩

end Sys2Proof.Proofs.Tick
end

section
/-! SUPPORT. Two runs whose states have the same foreground (R98, R120). -/

namespace Sys2Proof.Machine

open Sys2Proof.Certificates

variable {s t : State}

/-- What a step does to the foreground depends on the foreground only, with an event or without one. -/
theorem sameForeground_step (h : SameForeground s t) :
    ∃ s' t', step s = .next s' ∧ step t = .next t' ∧ SameForeground s' t' := by
  have hinputs : s.inputs = t.inputs := by rw [h.eq_with]
  cases hs : s.inputs with
  | nil => exact ⟨s, t, step_idle hs, step_idle (hinputs ▸ hs), h⟩
  | cons e rest =>
    refine ⟨_, _, step_receive hs, step_receive (hinputs ▸ hs), sameForeground_receive e ?_⟩
    rw [h.eq_with]
    exact .refl _

theorem sameForeground_run (n : Nat) (h : SameForeground s t) :
    ∃ s' t', core.run n s = .next s' ∧ core.run n t = .next t' ∧ SameForeground s' t' := by
  induction n generalizing s t with
  | zero => exact ⟨s, t, rfl, rfl, h⟩
  | succ n ih =>
    obtain ⟨s₁, t₁, hs, ht, h₁⟩ := sameForeground_step h
    rw [run_succ n hs, run_succ n ht]
    exact ih h₁

end Sys2Proof.Machine
end

section
/-! SUPPORT. Two operations in a row; the operands of the setters and the answers of the getters as the statements write
them, the mask in both readings of C1 (R87 to R95 of `41_config.md`). -/

namespace Sys2Proof.Machine

open Sys2Proof.Safety Sys2Proof.Certificates

variable {c : Config}

theorem execAll_pair (i j : Instr) (s : State) :
    execAll [i, j] s = .next ((s.perform Config.reference i).perform Config.reference j) := by
  rw [execAll_cons, execAll_cons, execAll]

/-! ## Operands and answers -/

theorem dutyOperand_toNat (old : Byte) (a : Int) :
    ((dutyOperand Config.reference old a).toNat : Int) = nearest a 1 Config.reference.slotCount := by
  rw [dutyOperand_reference]
  exact toNat_ofInt8 (by simp only [nearest, reference_slotCount]; omega)

/-- A duty value in range is stored as given. -/
theorem dutyOperand_natCast (old : Byte) {v : Nat} (h : 1 ≤ v ∧ v ≤ Config.reference.slotCount) :
    dutyOperand Config.reference old v = BitVec.ofNat 8 v := by
  rw [dutyOperand, reference_brightPolicy, clamp_of_mem (by omega), BitVec.ofInt_natCast]

theorem not_boolOperand (a : Int) : (!boolOperand a) = decide (a = 0) := by
  by_cases h : a = 0 <;> simp [boolOperand, h]

theorem boolResponse_not (v : Bool) : boolResponse (!v) = if v = false then 0x01 else 0x00 := by
  cases v <;> rfl

/-! ## The mask in both readings of C1 (R94, R95) -/

/-- An integer modulo a power of two, as a byte, is the low bits of the integer. -/
theorem ofInt_emod_two_pow (a : Int) {n : Nat} (h : n ≤ 8) :
    BitVec.ofInt 8 (a % 2 ^ n) = BitVec.ofInt 8 a &&& BitVec.ofNat 8 (2 ^ n - 1) := by
  have hdvd : (2 : Int) ^ n ∣ 2 ^ 8 := pow_dvd_pow 2 h
  have hle : 2 ^ n ≤ 2 ^ 8 := Nat.pow_le_pow_right (by decide) h
  have hmask : (BitVec.ofNat 8 (2 ^ n - 1)).toNat = 2 ^ n - 1 := toNat_ofNat8 (by omega)
  have hlow : 0 ≤ a % 2 ^ n ∧ a % 2 ^ n < 256 := by
    have := Int.emod_nonneg a (b := 2 ^ n) (by positivity)
    have := Int.emod_lt_of_pos a (b := 2 ^ n) (by positivity)
    zify at hle
    omega
  apply BitVec.eq_of_toNat_eq
  rw [BitVec.toNat_and, hmask, Nat.and_two_pow_sub_one_eq_mod, BitVec.toNat_ofInt (i := a)]
  zify
  rw [toNat_ofInt8 hlow, Int.toNat_of_nonneg (by omega)]
  exact (Int.emod_emod_of_dvd a hdvd).symm

/-- The complement of an integer is the complement of its byte. -/
theorem ofInt_neg_sub_one (a : Int) : BitVec.ofInt 8 (-a - 1) = ~~~BitVec.ofInt 8 a := by
  rw [← ofInt_sub_ofInt, BitVec.ofInt_neg, BitVec.not_eq_neg_add]
  rfl

/-- Complementing the low bits twice gives them back. -/
theorem not_and_not_and (x m : Byte) : ~~~(~~~x &&& m) &&& m = x &&& m := by
  ext k hk
  simp only [BitVec.getElem_and, BitVec.getElem_not]
  cases x[k] <;> cases m[k] <;> rfl

/-- Reading P complements the mask twice, so in both readings it is answered as it was given. -/
theorem maskResponse_maskOperand (hc : c.Legal) (a : Int) :
    maskResponse c (maskOperand c a) = BitVec.ofInt 8 (a % 2 ^ c.unitCount) := by
  have hunits : c.unitCount ≤ 8 := hc.unitCount_range.2.trans (by decide)
  unfold maskResponse maskOperand
  cases c.maskOperandInverted with
  | false => rfl
  | true =>
    simp only [if_true, ofInt_emod_two_pow _ hunits, ofInt_neg_sub_one, not_and_not_and]

end Sys2Proof.Machine
end

section
/-! SUPPORT. The first tick after `RESET` (R86, R135). -/

namespace Sys2Proof.Machine

open Sys2Proof.Safety Sys2Proof.Certificates

variable {c : Config} {s : State}

/-- From preset counters, with blinking off, the tick ends the pass and lights unit 0. -/
theorem State.tick_preset (hc : c.Legal) (hpreset : CountersPreset c s) (hbright : s.bright.toNat ≤ c.slotCount)
    (hbao : s.bao = true) : s.tick c =
      State.light (State.makeDark { s with slot := 0, unit := 0, frame := nextFrame s.fcnt s.frame }) := by
  obtain ⟨hslot, hunit⟩ := hpreset
  have hslots := hc.slotCount_range
  have hunits := hc.unitCount_range
  have hroll : c.slotCount ≤ (s.slot + 1).toNat := by rw [toNat_succ] <;> omega
  have hpass : c.unitCount ≤ (s.unit + 1).toNat := by rw [toNat_succ] <;> omega
  have hvisible : (s.rolledDark c).visible = true := State.visible_iff.2 (.inl hbao)
  rw [State.tick_rollover_dark hroll hbright, State.lightIfVisible, if_pos hvisible, State.makeDark_eq,
    State.rolledDark, nextUnit_of_last hpass, if_pos hpass]

/-- The port writes of lighting unit 0 with no segment. -/
theorem lightWrites_zero : lightWrites 0x00 0 = [.portA 0, .portB 0 0b0001] := rfl

/-- The frame after the preset one, under a period that `SETHILO` stored: kept if the period is above 50. -/
theorem nextFrame_periodOperand (h l : Int) : nextFrame (BitVec.ofInt 8 (periodOperand h l)) 49 =
    if 50 < nearest h 1 254 + nearest l 1 254 then 50 else 0 := by
  have hperiod := periodOperand_toNat h l
  rw [periodOperand_eq_nearest] at hperiod
  rw [nextFrame, periodOperand_eq_nearest, ← ite_not]
  exact if_congr (by rw [show ((49 : Byte) + 1).toNat = 50 from rfl]; omega) rfl rfl

end Sys2Proof.Machine
end

section
/-! SUPPORT. What the commands write and leave alone (R97, R119, R120, R125). -/

namespace Sys2Proof.Machine

open Sys2Proof.Certificates

variable {i j : Instr}

/-! ## The setters -/

theorem isSetter_cases (h : isSetter i) :
    (∃ a, i = .setbright a) ∨ (∃ a, i = .setblink a) ∨ (∃ a b, i = .sethilo a b) ∨ ∃ a, i = .setmask a := by
  cases i <;> simp [isSetter, Instr.mnemonic] at h ⊢

/-- Different setters write different settings, and none reads a setting another writes. -/
theorem State.perform_setter_comm (c : Config) (s : State) (hi : isSetter i) (hj : isSetter j)
    (hne : i.mnemonic ≠ j.mnemonic) : (s.perform c i).perform c j = (s.perform c j).perform c i := by
  obtain ⟨a, rfl⟩ | ⟨a, rfl⟩ | ⟨a, b, rfl⟩ | ⟨a, rfl⟩ := isSetter_cases hi <;>
    obtain ⟨x, rfl⟩ | ⟨x, rfl⟩ | ⟨x, y, rfl⟩ | ⟨x, rfl⟩ := isSetter_cases hj
  case inl.inl | inr.inl.inr.inl | inr.inr.inl.inr.inr.inl | inr.inr.inr.inr.inr.inr => exact absurd rfl hne
  all_goals rfl

/-! ## Every command -/

/-- `FBWR` writes the frame buffer and answers. -/
theorem State.fbWrite_eq_with (c : Config) (a b : Int) (s : State) : s.fbWrite c a b =
    { s with fb := (s.fbWrite c a b).fb, responses := s.responses ++ [0x00] } := by
  unfold State.fbWrite
  split <;> rfl

/-- A command writes no port and answers one byte. -/
theorem State.perform_command (c : Config) (s : State) (h : i ≠ .tick) :
    (s.perform c i).pins = s.pins ∧ (s.perform c i).trace = s.trace ∧
      ∃ r, (s.perform c i).responses = s.responses ++ [r] := by
  cases i with
  | tick => exact absurd rfl h
  | fbwr a b =>
    rw [State.perform, State.fbWrite_eq_with]
    exact ⟨rfl, rfl, _, rfl⟩
  | _ => exact ⟨rfl, rfl, _, rfl⟩

theorem State.perform_counters (c : Config) (s : State) (htick : i ≠ .tick) (hreset : i ≠ .reset) :
    (s.perform c i).slot = s.slot ∧ (s.perform c i).unit = s.unit ∧ (s.perform c i).frame = s.frame := by
  cases i with
  | tick => exact absurd rfl htick
  | reset => exact absurd rfl hreset
  | fbwr a b =>
    rw [State.perform, State.fbWrite_eq_with]
    exact ⟨rfl, rfl, rfl⟩
  | _ => exact ⟨rfl, rfl, rfl⟩

theorem State.perform_fb (c : Config) (s : State) (h : i.mnemonic ∉ ["FBWR", "RESET"]) :
    (s.perform c i).fb = s.fb := by
  cases i with
  | tick =>
    obtain ⟨-, -, -, -, -, hfb, -⟩ := s.tick_frame c
    exact hfb
  | reset | fbwr _ _ => exact absurd h (by simp [Instr.mnemonic])
  | _ => rfl

/-- The operations that read: what they do is answer. -/
theorem State.perform_reader (c : Config) (s : State)
    (h : i.mnemonic ∈ ["GETBRIGHT", "GETBLINK", "GETHI", "GETLO", "GETMASK", "FBRD", "FONTGET"]) :
    s.perform c i = { s with responses := (s.perform c i).responses } := by
  cases i with
  | getbright | getblink | gethi | getlo | getmask | fbrd _ | fontget _ _ => rfl
  | _ => exact absurd h (by simp [Instr.mnemonic])

end Sys2Proof.Machine
end

section
/-! PROOFS. The statements about `RESET`, the settings and the rights of the two contexts (`41_config.md`). -/

namespace Sys2Proof.Proofs.Settings

open Sys2Proof.Machine Sys2Proof.Safety Sys2Proof.Certificates

/-- Settles O55, by induction on the number of steps. -/
theorem foregroundCannotSeeTheCounters : Obligations.ForegroundCannotSeeTheCounters := fun n _ _ h =>
  sameForeground_run n h

/-- Settles O18: the tick ends the pass and lights unit 0, whose byte `RESET` zeroed. -/
theorem firstTickAfterReset : Obligations.FirstTickAfterReset := by
  intro s
  have hpreset := preset_counters reference_legal s
  have hbright : (s.resetAll Config.reference).bright.toNat ≤ Config.reference.slotCount := Nat.le_succ 4
  refine ⟨?_, fun h l => ?_⟩
  · have hfirst := State.tick_preset (s := s.resetAll Config.reference) reference_legal hpreset hbright rfl
    refine ⟨_, (execAll_pair .reset .tick s).trans (congrArg _ hfirst), rfl, rfl, rfl, rfl, ?_⟩
    rw [State.light_trace, State.makeDark_trace, List.append_assoc]
    exact congrArg (s.trace ++ .portB 0 0 :: .portA 0 :: ·) lightWrites_zero
  · have hfirst := State.tick_preset (s := (s.resetAll Config.reference).setHiLo h l) reference_legal hpreset hbright rfl
    exact ⟨_, (execAll_cons .reset [.sethilo h l, .tick] s).trans ((execAll_pair _ _ _).trans (congrArg _ hfirst)),
      rfl, rfl, nextFrame_periodOperand h l, rfl⟩

/-- Settles O28. -/
theorem maskRoundTripInBothReadings : Obligations.MaskRoundTripInBothReadings := by
  intro c m s hc
  simp [maskResponse_maskOperand hc]

/-- Settles O30. -/
theorem settersAreIndependent : Obligations.SettersAreIndependent := fun i j s hi hj hne =>
  ⟨_, execAll_pair i j s, by rw [execAll_pair, State.perform_setter_comm _ s hi hj hne]⟩

/-- Settles O31: the frame of a tick, then what the commands leave alone. -/
theorem contextsKeepTheirRights : Obligations.ContextsKeepTheirRights := by
  intro i s
  refine ⟨_, exec_eq_perform i s, s.perform_inputs _ i, ?_, s.perform_command _, s.perform_counters _,
    fun h k => by rw [s.perform_fb _ h], s.perform_reader _⟩
  rintro rfl
  obtain ⟨hbright, hbao, hfcnt, hfhi, hnbm, hfb, hresponses, -⟩ := s.tick_frame Config.reference
  exact ⟨hbright, hbao, hfcnt, hfhi, hnbm, hfb, hresponses⟩

/-- Settles O14, register by register. -/
theorem powerOnIsResetWithDarkPorts : Obligations.PowerOnIsResetWithDarkPorts := fun _ _ h =>
  ⟨_, _, step_powerOn h, exec_eq_perform .reset _, rfl, rfl, rfl, rfl, rfl, rfl, rfl, rfl, rfl, rfl, rfl, rfl, rfl, rfl,
    rfl, rfl, rfl, rfl, rfl, Memory.read_zeroed⟩

/-- Settles O16. -/
theorem resetRestoresTheDefaults : Obligations.ResetRestoresTheDefaults := fun s =>
  ⟨_, exec_eq_perform .reset s, Memory.read_zeroed, rfl⟩

/-- Settles O17: no register that `RESET` writes depends on the state before. -/
theorem resetTwiceIsResetOnce : Obligations.ResetTwiceIsResetOnce := fun s =>
  ⟨_, exec_eq_perform .reset s, exec_eq_perform .reset _⟩

/-- Settles O19. -/
theorem setbrightClampsTheDuty : Obligations.SetbrightClampsTheDuty := fun a s =>
  ⟨_, exec_eq_perform (.setbright a) s, dutyOperand_toNat s.bright a, rfl⟩

/-- Settles O20: a value in range is stored as given. -/
theorem getbrightAnswersTheDuty : Obligations.GetbrightAnswersTheDuty := by
  refine ⟨exec_eq_perform .getbright, fun s hinv => hinv.bright_range, fun v s hlo hhi => ⟨?_, ?_⟩⟩
  · refine ⟨_, execAll_pair _ _ s, ?_⟩
    simp [State.perform, dutyOperand_natCast s.bright ⟨hlo, hhi⟩]
  · exact ⟨_, execAll_pair _ _ s, by simp [State.perform]⟩

/-- Settles O21: with blinking off every unit passes the gate. -/
theorem setblinkStoresTheComplement : Obligations.SetblinkStoresTheComplement := fun a s =>
  ⟨_, exec_eq_perform (.setblink a) s, by rw [← not_boolOperand]; rfl,
    fun ha _ _ => .inl ((not_boolOperand a).trans (decide_eq_true ha))⟩

/-- Settles O22. -/
theorem getblinkAnswersTheMode : Obligations.GetblinkAnswersTheMode := fun s =>
  ⟨by rw [← boolResponse_not]; exact exec_eq_perform .getblink s,
    _, execAll_pair _ _ s, by simp [State.perform, boolResponse]⟩

/-- Settles O23: both stored values are integers in the range of a byte. -/
theorem sethiloStoresDurationAndPeriod : Obligations.SethiloStoresDurationAndPeriod := by
  intro a b s
  have hfhi := framesOperand_toNat a
  have hfcnt := periodOperand_toNat a b
  have hframes := framesOperand_range a
  have hperiod := periodOperand_range a b
  refine ⟨_, exec_eq_perform (.sethilo a b) s, hfhi.trans (framesOperand_eq_nearest a),
    hfcnt.trans (periodOperand_eq_nearest a b), ?_, ?_, ?_, rfl⟩ <;>
    simp only [State.perform, State.setHiLo_fhi, State.setHiLo_fcnt] <;> omega

/-- Settles O24. -/
theorem gethiAnswersTheOnDuration : Obligations.GethiAnswersTheOnDuration := by
  refine ⟨exec_eq_perform .gethi, fun s hinv => ?_, fun a b s => ⟨?_, ?_⟩⟩
  · have := hinv.blink_range
    omega
  · exact ⟨_, execAll_pair _ _ s, by simp [State.perform, framesOperand_eq_nearest]⟩
  · exact ⟨_, execAll_pair _ _ s, by simp [State.perform]⟩

/-- Settles O25: the invariant has the on duration below the period. -/
theorem getloAnswersTheOffDuration : Obligations.GetloAnswersTheOffDuration := by
  refine ⟨fun s => ⟨_, exec_eq_perform .getlo s, fun hinv => ?_⟩, fun a b s => ⟨_, execAll_pair _ _ s, ?_⟩⟩
  · obtain ⟨hlo, hlt⟩ := hinv.blink_range
    rw [BitVec.toNat_sub_of_le (BitVec.le_def.2 hlt.le)]
    omega
  · simp [State.perform, framesOperand_eq_nearest, periodOperand_eq_nearest, ofInt_sub_ofInt]

/-- Settles O27: reading Q of the mask in the reference system, so `GETMASK` answers `NBM` itself. -/
theorem getmaskAnswersTheMask : Obligations.GetmaskAnswersTheMask :=
  ⟨exec_eq_perform .getmask, fun m s => ⟨_, execAll_pair _ _ s,
    by simp [State.perform, maskResponse_maskOperand reference_legal]⟩⟩

end Sys2Proof.Proofs.Settings
end

section
/-! SUPPORT. What `FBWR` leaves in the frame buffer and what `FBRD` answers (R101, R102 of `42_framebuffer.md`). -/

namespace Sys2Proof.Machine

variable {c : Config} {s : State}

/-- `FBWR` with an index that names no unit only answers (log 8). -/
theorem State.fbWrite_outside {a : Int} (ha : ¬ (0 ≤ a ∧ a < c.unitCount)) (b : Int) (s : State) :
    s.fbWrite c a b = s.respond 0x00 := by
  rw [State.fbWrite, show indexOperand c a = none from if_neg ha]

/-- `FBRD` answers the byte of the unit its index names, else `0x00` (log 8). -/
theorem State.fbRead_eq (c : Config) (a : Int) (s : State) :
    s.fbRead c a = s.respond (if 0 ≤ a ∧ a < c.unitCount then s.fb.read a.toNat else 0x00) := by
  unfold State.fbRead indexOperand
  split_ifs <;> rfl

/-- Every byte of the frame buffer after `FBWR`: the operand where the index names the byte's unit, else as before. -/
theorem State.fbWrite_read (h : s.fb.wf) (a b : Int) (j : Nat) : (s.fbWrite c a b).fb.read j =
    if a = j ∧ j < c.unitCount then BitVec.ofInt 8 b else s.fb.read j := by
  by_cases ha : 0 ≤ a ∧ a < c.unitCount
  · obtain ⟨hlo, hlt⟩ := ha
    lift a to Nat using hlo
    rw [State.fbWrite_unit (Int.ofNat_lt.1 hlt), Memory.read_write h]
    exact if_congr (by omega) rfl rfl
  · rw [State.fbWrite_outside ha, State.respond_fb, if_neg (by omega)]

end Sys2Proof.Machine
end

section
/-! PROOFS. The statements about the frame buffer operations (`42_framebuffer.md`). -/

namespace Sys2Proof.Proofs.FrameBuffer

open Sys2Proof.Machine

/-- Settles O32. -/
theorem fbwrStoresOneByte : Obligations.FbwrStoresOneByte := fun a b s hwf =>
  ⟨_, exec_eq_perform (.fbwr a b) s, State.fbWrite_read hwf a b,
    fun ha => by rw [State.perform, State.fbWrite_outside ha, State.respond_fb], State.fbWrite_eq_with _ a b s⟩

/-- Settles O33. -/
theorem fbrdAnswersTheByte : Obligations.FbrdAnswersTheByte := fun a s =>
  (exec_eq_perform (.fbrd a) s).trans (congrArg _ (State.fbRead_eq _ a s))

end Sys2Proof.Proofs.FrameBuffer
end

section
/-! SUPPORT. The font stage: what `FONTGET` answers, and that no operation reads the responses given so far
(R105 to R109, R111 of `43_font.md`). -/

namespace Sys2Proof.Machine

open Sys2Proof.Certificates

/-! ## The table entry -/

/-- The low seven bits of the byte of an integer are its low seven bits. -/
theorem extractLsb_ofInt (b : Int) : (BitVec.ofInt 8 b).extractLsb' 0 7 = BitVec.ofInt 7 b := by
  apply BitVec.eq_of_toNat_eq
  simp only [BitVec.extractLsb'_toNat, BitVec.toNat_ofInt, Nat.shiftRight_zero]
  omega

/-- `FONTGET` takes the entry of the operand's low seven bits and the operand's bit 7 (R107, R108). -/
theorem fontPattern_eq (c : Config) (a b : Int) : fontPattern c a b =
    readRom c (fontOperand c a) (BitVec.ofInt 7 b) ||| (BitVec.ofInt 8 b &&& 0x80) := by
  rw [fontPattern, byteOperand_eq, extractLsb_ofInt]

/-- A byte as the character operand. -/
theorem fontPattern_toNat (c : Config) (f : Int) (ch : Byte) : fontPattern c f ch.toNat =
    readRom c (fontOperand c f) (ch.extractLsb' 0 7) ||| (ch &&& 0x80) := by
  rw [fontPattern, byteOperand_eq, BitVec.ofInt_natCast, BitVec.ofNat_toNat, BitVec.setWidth_eq]

/-- Bit 7 of every table entry is 0 (R108, D22). -/
theorem readRom_getLsbD_seven (c : Config) (f : Nat) (k : BitVec 7) : (readRom c f k).getLsbD 7 = false := by
  rw [readRom, BitVec.getLsbD_setWidth, BitVec.getLsbD_of_ge _ _ le_rfl, Bool.and_false]

/-- An entry and a decimal point, without the decimal point. -/
theorem readRom_or_and (c : Config) (f : Nat) (k : BitVec 7) : (readRom c f k ||| 0x80) &&& 0x7F = readRom c f k := by
  have h7 := readRom_getLsbD_seven c f k
  generalize readRom c f k = p at h7 ⊢
  revert p
  decide

/-! ## The decimal point (R108) -/

/-- A character without its decimal point gets the entry alone. -/
theorem fontPattern_and (c : Config) (f : Int) (ch : Byte) : fontPattern c f (ch &&& 0x7F).toNat =
    readRom c (fontOperand c f) (ch.extractLsb' 0 7) := by
  have hindex : (ch &&& 0x7F).extractLsb' 0 7 = ch.extractLsb' 0 7 :=
    BitVec.extractLsb'_and.trans BitVec.and_allOnes
  rw [fontPattern_toNat, hindex, BitVec.and_assoc]
  exact (congrArg _ BitVec.and_zero).trans BitVec.or_zero

/-- A character with its decimal point gets the entry with its decimal point. -/
theorem fontPattern_or (c : Config) (f : Int) (ch : Byte) : fontPattern c f (ch ||| 0x80).toNat =
    readRom c (fontOperand c f) (ch.extractLsb' 0 7) ||| 0x80 := by
  have hindex : (ch ||| 0x80).extractLsb' 0 7 = ch.extractLsb' 0 7 :=
    BitVec.extractLsb'_or.trans BitVec.or_zero
  have hpoint : (ch ||| 0x80) &&& 0x80 = (0x80 : Byte) := by
    ext k hk
    rw [BitVec.getElem_and, BitVec.getElem_or]
    exact inf_eq_right.2 le_sup_right
  rw [fontPattern_toNat, hindex, hpoint]

/-! ## The font id (R109) -/

theorem fontOperand_reference (a : Int) : fontOperand Config.reference a = (nearest a 0 1).toNat :=
  congrArg Int.toNat (clamp_eq_nearest a (by decide))

/-- Clamping the font id twice is clamping it once. -/
theorem fontOperand_nearest (a : Int) :
    fontOperand Config.reference (nearest a 0 1) = fontOperand Config.reference a := by
  simp only [fontOperand_reference, nearest]
  omega

/-- The clamped font id names one of the two fonts. -/
theorem fontOperand_eq_ite (a : Int) :
    fontOperand Config.reference a = if nearest a 0 1 = 0 then 0 else 1 := by
  rw [fontOperand_reference]
  unfold nearest
  split <;> omega

/-! ## The responses (R53, R111 law 5) -/

/-- What an operation does and what it answers do not depend on the responses given before. -/
theorem State.perform_with_responses (c : Config) (i : Instr) (s : State) :
    ∃ q, (s.perform c i).responses = s.responses ++ q ∧
      ∀ rs, ({ s with responses := rs } : State).perform c i = { s.perform c i with responses := rs ++ q } := by
  cases i with
  | tick =>
    obtain ⟨-, -, -, -, -, -, hresponses, hinputs⟩ := s.tick_frame c
    refine ⟨[], by rw [List.append_nil]; exact hresponses, fun rs => ?_⟩
    rw [List.append_nil]
    exact (s.tick_with c rs s.inputs).trans (by rw [← hinputs]; rfl)
  | fbwr a b =>
    refine ⟨[0x00], congrArg State.responses (State.fbWrite_eq_with c a b s), fun rs => ?_⟩
    simp only [State.perform, State.fbWrite]
    split <;> rfl
  | _ => exact ⟨[_], rfl, fun _ => rfl⟩

end Sys2Proof.Machine
end

section
/-! PROOFS. The statements about the font stage (`43_font.md`). -/

namespace Sys2Proof.Proofs.Font

open Sys2Proof.Machine

/-- Settles O36: with and without the decimal point a character selects the same entry, whose bit 7 is 0. -/
theorem decimalPointIsOrthogonal : Obligations.DecimalPointIsOrthogonal := by
  refine ⟨fontPattern Config.reference, fun f ch => exec_eq_perform (.fontget f ch), fun f ch => ?_, fun f ch => ?_,
    fun f ch => ?_, fun f ch => ?_⟩
  · rw [fontPattern_and, fontPattern_toNat]
  · rw [fontPattern_or, fontPattern_and, readRom_or_and]
  · rw [fontPattern_and, fontPattern_or]
  · rw [fontPattern_eq, fontPattern_eq, fontOperand_nearest]

/-- Settles O37: `FONTGET` changes the responses only, and no operation reads them. -/
theorem fontgetCommutesWithEveryEvent : Obligations.FontgetCommutesWithEveryEvent := by
  intro a b i s
  obtain ⟨q, hq, hwith⟩ := State.perform_with_responses Config.reference i s
  have hbefore : execAll [.fontget a b, i] s =
      .next { s.perform Config.reference i with
        responses := s.responses ++ [fontPattern Config.reference a b] ++ q } :=
    (execAll_pair _ i s).trans (congrArg _ (hwith _))
  exact ⟨_, _, _, hbefore, execAll_pair i _ s, rfl, q, List.append_assoc _ _ _, congrArg (· ++ [_]) hq⟩

/-- Settles O35: bit 7 of the answer is the character's, as bit 7 of the entry is 0. -/
theorem fontgetLooksTheCharacterUp : Obligations.FontgetLooksTheCharacterUp := by
  intro a b s
  refine ⟨_, exec_eq_perform (.fontget a b) s, ?_, ?_⟩
  · rw [fontPattern_eq, fontOperand_eq_ite]
    rfl
  · rw [fontPattern_eq, BitVec.getLsbD_or, readRom_getLsbD_seven, BitVec.getLsbD_and]
    exact Bool.and_true _

end Sys2Proof.Proofs.Font
end

section
/-! SUPPORT. Power-on forgets the state before it. -/

namespace Sys2Proof.Machine

/-- Power-on keeps only the events still to come: no register, port or list of the state before shows (R131, log 3). -/
theorem State.powerOn_eq_afterPowerOn (c : Config) (s : State) :
    s.powerOn c = { State.afterPowerOn c with inputs := s.inputs } := rfl

end Sys2Proof.Machine
end

section
/-! PROOFS. The statements about power-on and progress (`70_reset_and_hazards.md`). -/

namespace Sys2Proof.Proofs.ResetAndHazards

open Sys2Proof.Machine

/-- Settles O11: a step by the event presented, an operation by its meaning in the reference system. -/
theorem everyEventCompletes : Obligations.EveryEventCompletes := fun s =>
  ⟨step_next s, fun i => ⟨_, exec_eq_perform i s⟩⟩

/-- Settles O15. -/
theorem powerOnRestoresTheResetState : Obligations.PowerOnRestoresTheResetState := fun _ _ h =>
  (step_powerOn h).trans (congrArg _ (State.powerOn_eq_afterPowerOn _ _))

end Sys2Proof.Proofs.ResetAndHazards
end
